-- ==== Sys2Proof/Word.lean ====
section
/-! DEFINITION. The words of the FXU: register words, host words, register numbers, the two number
families, the approximation tiers and the vector lengths (00_scope.md R2, R8, R9, R10; 30_encoding.md R92 to R95). -/

namespace Sys2Proof

/-- A 32-bit word: a host access, a command word, a control or status register (10_state.md R39). -/
abbrev Word32 := BitVec 32

/-- A 64-bit word: the contents of a general register (10_state.md R30). -/
abbrev Word64 := BitVec 64

/-- One byte of the host window (20_memory.md R63). -/
abbrev Byte := BitVec 8

/-- A register number R0 to R31, or the constant index of CONST (30_encoding.md R95, R97). -/
abbrev RegNum := BitVec 5

/-- The two number families (00_scope.md R2): `q16` is Q16.16 (W = 0, family 32), `q32` is Q32.32
(W = 1, family 64). -/
inductive Family where
  | q16
  | q32
deriving DecidableEq, Repr

/-- `N(W)`, the width of a raw value (00_scope.md R8). -/
abbrev Family.bits : Family → Nat
  | .q16 => 32
  | .q32 => 64

/-- The W bit (30_encoding.md R92). -/
def Family.code : Family → BitVec 1
  | .q16 => 0
  | .q32 => 1

/-- The three approximation tiers: TIER = 0, 1, 2 (30_encoding.md R93). TIER = 3, the exact forms, are
instructions of their own. -/
inductive Tier where
  | base
  | fast
  | fastest
deriving DecidableEq, Repr

/-- The vector length VL = 0 to 3 (30_encoding.md R94). -/
inductive VLen where
  | x1
  | x2
  | x3
  | x4
deriving DecidableEq, Repr

/-- `n = VL + 1`, the component count (30_encoding.md R94). -/
def VLen.count : VLen → Nat
  | .x1 => 1
  | .x2 => 2
  | .x3 => 3
  | .x4 => 4

/-- The VL field (30_encoding.md R94). -/
def VLen.code : VLen → BitVec 2
  | .x1 => 0
  | .x2 => 1
  | .x3 => 2
  | .x4 => 3

end Sys2Proof
end

