-- ==== Sys2Proof/Config.lean ====
section
/-! DEFINITION. What a build of the FXU fixes: the build parameters (00_scope.md R8), the constant ROM's
parameters and their defaults (10_state.md R36), the OPEN approximation tables (R37), the draw
FLTCVT_OOR (40_conversion.md R140) and the OPEN accuracy, tolerance and latency parameters. An OPEN
parameter is an opaque constant: nothing in Lean can evaluate it. -/

namespace Sys2Proof

/-- FRAC64, the fraction bits of family 64: 32 (the default) or 16, the only other admitted value
(00_scope.md R8, 90_conflicts.md C1). -/
inductive Frac64 where
  | f32
  | f16
deriving DecidableEq, Repr

/-- The value of FRAC64. -/
def Frac64.bits : Frac64 → Nat
  | .f32 => 32
  | .f16 => 16

/-- The parameters of one family's constant ROM: entries 4 to 9 and 13 of 10_state.md R36
(93_implementation_defined.md I4). -/
structure RomValues (n : Nat) where
  pi     : BitVec n
  piHalf : BitVec n
  twoPi  : BitVec n
  ln2    : BitVec n
  invLn2 : BitVec n
  sqrt2  : BitVec n
  e      : BitVec n
deriving DecidableEq, Repr

/-- The build parameters of one unit: STRICT, FRAC64 and the constant ROM (00_scope.md R8; 10_state.md R35,
R36, R40, R42). No step of the machine changes them. -/
structure Build where
  strict : Bool
  frac64 : Frac64
  rom32  : RomValues 32
  rom64  : RomValues 64
deriving DecidableEq, Repr

/-- The default raw values of family 32 (10_state.md R36, column W=0). -/
def Config.rom32Default : RomValues 32 where
  pi     := 0x0003243F
  piHalf := 0x00019220
  twoPi  := 0x0006487F
  ln2    := 0x0000B172
  invLn2 := 0x00017154
  sqrt2  := 0x00016A0A
  e      := 0x0002B7E1

/-- The default raw values of family 64 (10_state.md R36, column W=1, FRAC64 = 32). -/
def Config.rom64Default : RomValues 64 where
  pi     := 0x00000003243F6A89
  piHalf := 0x00000001921FB544
  twoPi  := 0x00000006487ED511
  ln2    := 0x00000000B17217F8
  invLn2 := 0x0000000171547653
  sqrt2  := 0x000000016A09E668
  e      := 0x00000002B7E15163

/-- The default build: STRICT = 0, FRAC64 = 32, the default ROM (00_scope.md R8). -/
def Config.defaultBuild : Build where
  strict := false
  frac64 := .f32
  rom32  := Config.rom32Default
  rom64  := Config.rom64Default

/-- `ID_VALUE` (00_scope.md R8, 10_state.md R41). -/
def Config.idValue : Word32 := 0x46585501

/-- `NREG` (00_scope.md R8, 10_state.md R42). -/
def Config.nreg : Nat := 32

/-- CREV, the revision of the constant ROM and the approximation tables (10_state.md R42). -/
def Config.crev : Nat := 1

/-! The approximation tables of 10_state.md R37, one opaque constant per function: nine functions, two
families, three tiers. Each may depend on the build and on its raw arguments, and on nothing else
(assumption log 4). -/

/-- `Cfg.DivPos[W][t]`, for a denominator above 0 (10_state.md R37). -/
opaque Config.divPos : Build → (w : Family) → Tier → BitVec w.bits → BitVec w.bits → BitVec w.bits
/-- `Cfg.RcpPos[W][t]`, for an argument above 0 (10_state.md R37). -/
opaque Config.rcpPos : Build → (w : Family) → Tier → BitVec w.bits → BitVec w.bits
/-- `Cfg.SqrtPos[W][t]`, for an argument above 0 (10_state.md R37). -/
opaque Config.sqrtPos : Build → (w : Family) → Tier → BitVec w.bits → BitVec w.bits
/-- `Cfg.RsqrtPos[W][t]`, for an argument above 0 (10_state.md R37). -/
opaque Config.rsqrtPos : Build → (w : Family) → Tier → BitVec w.bits → BitVec w.bits
/-- `Cfg.Exp2[W][t]`, total (10_state.md R37). -/
opaque Config.exp2 : Build → (w : Family) → Tier → BitVec w.bits → BitVec w.bits
/-- `Cfg.Log2Pos[W][t]`, for an argument above 0 (10_state.md R37). -/
opaque Config.log2Pos : Build → (w : Family) → Tier → BitVec w.bits → BitVec w.bits
/-- The stored table of `Cfg.Sin[W][t]`, consulted where SIN-ODD (43_transcendental.md R285) does not
already fix the value (assumption log 5). -/
opaque Config.sinTable : Build → (w : Family) → Tier → BitVec w.bits → BitVec w.bits
/-- `Cfg.Tan[W][t]`, total (10_state.md R37). -/
opaque Config.tan : Build → (w : Family) → Tier → BitVec w.bits → BitVec w.bits
/-- The stored table of `Cfg.Atan2[W][t]`, arguments y and x, consulted where ATAN2-AXIS
(43_transcendental.md R287) does not already fix the value (assumption log 5). -/
opaque Config.atan2Table : Build → (w : Family) → Tier → BitVec w.bits → BitVec w.bits → BitVec w.bits

/-- `FLTCVT_OOR`, the free value of an out-of-range float conversion: draw number k of family W, any
element of Int_N (40_conversion.md R140, R141; 93_implementation_defined.md I1; assumption log 6). -/
opaque Config.fltcvtOor : Nat → (w : Family) → BitVec w.bits

/-- The approximated functions that have an accuracy bound (00_scope.md R8, 43_transcendental.md R291). -/
inductive ApproxFn where
  | div
  | rcp
  | sqrt
  | rsqrt
  | exp2
  | log2
  | exp
  | log
  | pow
  | sin
  | cos
  | tan
  | atan2
  | asin
  | acos
deriving DecidableEq, Repr

/-! Each bound, tolerance and swept domain below has the unit's build as an argument: DESIGN CHOICE (assumption log 12),
because the spec does not say whether it may differ between builds. -/

/-- `ERR[fn][W][t]`, OPEN (00_scope.md R8, 41_scalar_arith.md R187). -/
opaque Config.err : Build → ApproxFn → Family → Tier → Rat
/-- `TOL_SQ[W][t]`, OPEN (42_sqrt_rcp.md R224). -/
opaque Config.tolSq : Build → Family → Tier → Rat
/-- `TOL_RS[W][t]`, OPEN (42_sqrt_rcp.md R225). -/
opaque Config.tolRs : Build → Family → Tier → Rat
/-- `TOL_PER[W][t]`, OPEN (43_transcendental.md R286). -/
opaque Config.tolPer : Build → Family → Tier → Rat
/-- `TOL_EL[W][t]`, OPEN (43_transcendental.md R289). -/
opaque Config.tolEl : Build → Family → Tier → Rat
/-- The swept domain of a conformance property: OPEN (41_scalar_arith.md R187; 42_sqrt_rcp.md R225;
43_transcendental.md R286, R289). The last arguments are the function's raw arguments. -/
opaque Config.swept : Build → ApproxFn → Family → Tier → List Int → Bool

/-- `LAT[op]`, OPEN: within one unit a function of OP, W, TIER and VL only (00_scope.md R8, 70_reset_and_hazards.md
R390). DESIGN CHOICE (assumption log 13): it has the unit's build as an argument too, because the spec does not say
whether LAT may differ between builds. -/
opaque Config.lat : Build → BitVec 6 → BitVec 1 → BitVec 2 → BitVec 2 → Nat

end Sys2Proof
end

