-- ==== Sys2Proof/Machine/Notation.lean ====
section
/-! DEFINITION. The integer notation of the spec (00_scope.md R11, R12): wraparound, shifts, the raw range and
the unit value of a family, and the integer arithmetic ADD_W, SUB_W and MUL_W that the rules share. All
arithmetic is on unbounded integers; wraparound happens only where `wrap` stands. -/

namespace Sys2Proof.Machine

/-- `wrap_N(v)`: the element of Int_N congruent to v modulo 2^N (00_scope.md R11). -/
def wrap (n : Nat) (v : Int) : Int := v.bmod (2 ^ n)

/-- `asr(v, k) = floor(v / 2^k)` (00_scope.md R11). -/
def asr (v : Int) (k : Nat) : Int := v / 2 ^ k

/-- `shl(v, k) = v * 2^k`, exact (00_scope.md R11). -/
def shl (v : Int) (k : Nat) : Int := v * 2 ^ k

/-- `trunc(a / b)`: division rounding toward zero (00_scope.md R11). -/
def truncDiv (a b : Int) : Int := a.tdiv b

/-- `F(W)`: 16, and FRAC64 for family 64 (00_scope.md R8). -/
def fracBits (b : Build) : Family → Nat
  | .q16 => 16
  | .q32 => b.frac64.bits

/-- `ONE_W = 2^F(W)` (00_scope.md R12). -/
def oneRaw (b : Build) (w : Family) : Int := 2 ^ fracBits b w

/-- `MIN_N` (00_scope.md R11). -/
def minRaw (w : Family) : Int := -2 ^ (w.bits - 1)

/-- `MAX_N` (00_scope.md R11). -/
def maxRaw (w : Family) : Int := 2 ^ (w.bits - 1) - 1

/-- `v in Int_N` (00_scope.md R11). -/
def inRaw (w : Family) (v : Int) : Bool := decide (minRaw w ≤ v) && decide (v ≤ maxRaw w)

/-- `ADD_W(a, b) = wrap_N(a + b)` (41_scalar_arith.md R170). -/
def addW (w : Family) (a b : Int) : Int := wrap w.bits (a + b)

/-- `SUB_W(a, b) = wrap_N(a - b)` (41_scalar_arith.md R171). -/
def subW (w : Family) (a b : Int) : Int := wrap w.bits (a - b)

/-- `wrap_N(-a)` (41_scalar_arith.md R179). -/
def negW (w : Family) (a : Int) : Int := wrap w.bits (-a)

/-- `MUL_W(a, b) = wrap_N(asr(a * b, F))` (41_scalar_arith.md R172). -/
def mulW (b : Build) (w : Family) (x y : Int) : Int := wrap w.bits (asr (x * y) (fracBits b w))

end Sys2Proof.Machine
end

