-- ==== Sys2Proof/Machine/FloatBridge.lean ====
section
/-! DEFINITION. The float bridges (40_conversion.md R139 to R143): IEEE 754 binary32 and binary64 patterns to
scaled integers, truncating, and back, rounding to nearest even. A format is given by its exponent width `eb`
and fraction width `fb`: binary32 is 8 and 23, binary64 is 11 and 52. Integer arithmetic only (00_scope.md R1). -/

namespace Sys2Proof.Machine

/-- The bias of a format: `2^(eb-1) - 1`. -/
def floatBias (eb : Nat) : Nat := 2 ^ (eb - 1) - 1

/-- `trunc(f * 2^F)` of the float whose pattern is `p`; none for a NaN or an infinity (40_conversion.md R140,
R141). A pattern with exponent field x and fraction field m has the value `(2^fb + m) * 2^(x - bias - fb)`, or
`m * 2^(1 - bias - fb)` when x = 0. -/
def floatToFixed (eb fb F p : Nat) : Option Int :=
  let m := p % 2 ^ fb
  let x := p / 2 ^ fb % 2 ^ eb
  let sig := if x = 0 then m else 2 ^ fb + m
  let up := max x 1 + F
  let down := floatBias eb + fb
  let mag := if down ≤ up then sig * 2 ^ (up - down) else sig / 2 ^ (down - up)
  if x = 2 ^ eb - 1 then none
  else some (if p / 2 ^ (fb + eb) % 2 = 1 then -(mag : Int) else (mag : Int))

/-- `m / 2^k` for k > 0, rounded to nearest, ties to even (40_conversion.md R142, R143). -/
def roundShift (m k : Nat) : Nat :=
  let q := m / 2 ^ k
  let r := m % 2 ^ k
  if 2 ^ (k - 1) < r ∨ (r = 2 ^ (k - 1) ∧ q % 2 = 1) then q + 1 else q

/-- The pattern of `a / 2^F` rounded to nearest even; +0.0 for 0 (40_conversion.md R142, R143). A round up to
the next power of two carries from the fraction field into the exponent field. -/
def fixedToFloat (eb fb F : Nat) (a : Int) : Nat :=
  if a = 0 then 0
  else
    let m := a.natAbs
    let top := m.log2
    let sig := if top ≤ fb then m * 2 ^ (fb - top) else roundShift m (top - fb)
    (if a < 0 then 2 ^ (fb + eb) else 0) + (top + floatBias eb - F) * 2 ^ fb + (sig - 2 ^ fb)

/-- The conversion is in range: the float is finite and the truncated value is in Int_N (40_conversion.md R140). -/
def fixedInRange (w : Family) : Option Int → Bool
  | some v => inRaw w v
  | none => false

/-- The result of FROMF and FROMD: the truncated value, or draw number k of FLTCVT_OOR (40_conversion.md R140,
R141; assumption log 6). -/
def fromFloatResult (w : Family) (k : Nat) (v : Option Int) : Int :=
  if fixedInRange w v then v.getD 0 else (Config.fltcvtOor k w).toInt

end Sys2Proof.Machine
end

