-- ==== Sys2Proof/Syntax.lean ====
section
/-! DEFINITION. The syntax of the FXU's commands: one constructor per row of spec/opcode_table.json, with the
fields the row's shape uses (30_encoding.md R90, R98). A field that a row fixes (its OP, its TIER, the W of
WIDEN, NARROW and LENSQRW, the VL of CROSS and of the scalar rows, an unused register field) is no argument.
Arguments: `w` the family W, `vl` the vector length VL, `sb` the broadcast bit S, then RD, RS1, RS2, RS3;
CONST has its index `k` where RS1 stands. -/

namespace Sys2Proof

/-- One command of the FXU (30_encoding.md R98, R105). -/
inductive Instr where
  /-- NOP (40_conversion.md R130). -/
  | nop
  /-- MOV (40_conversion.md R131). -/
  | mov (w : Family) (vl : VLen) (rd rs1 : RegNum)
  /-- CONST (40_conversion.md R132). -/
  | const (w : Family) (rd k : RegNum)
  /-- WIDEN (40_conversion.md R133). -/
  | widen (vl : VLen) (rd rs1 : RegNum)
  /-- NARROW (40_conversion.md R134). -/
  | narrow (vl : VLen) (rd rs1 : RegNum)
  /-- FROMINT (40_conversion.md R135). -/
  | fromint (w : Family) (rd rs1 : RegNum)
  /-- FLOOR (40_conversion.md R136). -/
  | floor (w : Family) (rd rs1 : RegNum)
  /-- CEIL (40_conversion.md R137). -/
  | ceil (w : Family) (rd rs1 : RegNum)
  /-- ROUND (40_conversion.md R138). -/
  | round (w : Family) (rd rs1 : RegNum)
  /-- FROMF (40_conversion.md R140). -/
  | fromf (w : Family) (rd rs1 : RegNum)
  /-- FROMD (40_conversion.md R141). -/
  | fromd (w : Family) (rd rs1 : RegNum)
  /-- TOF (40_conversion.md R142). -/
  | tof (w : Family) (rd rs1 : RegNum)
  /-- TOD (40_conversion.md R143). -/
  | tod (w : Family) (rd rs1 : RegNum)
  /-- RATIO (41_scalar_arith.md R184). -/
  | ratio (w : Family) (rd rs1 rs2 : RegNum)
  /-- CMP (41_scalar_arith.md R181). -/
  | cmp (w : Family) (rd rs1 rs2 : RegNum)
  /-- ADD (41_scalar_arith.md R170). -/
  | add (w : Family) (vl : VLen) (sb : Bool) (rd rs1 rs2 : RegNum)
  /-- SUB (41_scalar_arith.md R171). -/
  | sub (w : Family) (vl : VLen) (sb : Bool) (rd rs1 rs2 : RegNum)
  /-- MUL (41_scalar_arith.md R172). -/
  | mul (w : Family) (vl : VLen) (sb : Bool) (rd rs1 rs2 : RegNum)
  /-- DIV (41_scalar_arith.md R175). -/
  | div (w : Family) (vl : VLen) (sb : Bool) (rd rs1 rs2 : RegNum)
  /-- DIV.FAST (41_scalar_arith.md R176). -/
  | divFast (w : Family) (vl : VLen) (sb : Bool) (rd rs1 rs2 : RegNum)
  /-- DIV.FASTEST (41_scalar_arith.md R177). -/
  | divFastest (w : Family) (vl : VLen) (sb : Bool) (rd rs1 rs2 : RegNum)
  /-- DIV.PRECISE (41_scalar_arith.md R173). -/
  | divPrecise (w : Family) (vl : VLen) (sb : Bool) (rd rs1 rs2 : RegNum)
  /-- MOD (41_scalar_arith.md R178). -/
  | mod (w : Family) (vl : VLen) (sb : Bool) (rd rs1 rs2 : RegNum)
  /-- NEG (41_scalar_arith.md R179). -/
  | neg (w : Family) (rd rs1 : RegNum)
  /-- ABS (41_scalar_arith.md R180). -/
  | abs (w : Family) (rd rs1 : RegNum)
  /-- MIN (41_scalar_arith.md R182). -/
  | min (w : Family) (rd rs1 rs2 : RegNum)
  /-- MAX (41_scalar_arith.md R183). -/
  | max (w : Family) (rd rs1 rs2 : RegNum)
  /-- CLAMP (44_vector.md R302). -/
  | clamp (w : Family) (vl : VLen) (sb : Bool) (rd rs1 rs2 rs3 : RegNum)
  /-- LERP (44_vector.md R303). -/
  | lerp (w : Family) (vl : VLen) (rd rs1 rs2 rs3 : RegNum)
  /-- SQRT (42_sqrt_rcp.md R212). -/
  | sqrt (w : Family) (rd rs1 : RegNum)
  /-- SQRT.FAST (42_sqrt_rcp.md R213). -/
  | sqrtFast (w : Family) (rd rs1 : RegNum)
  /-- SQRT.FASTEST (42_sqrt_rcp.md R214). -/
  | sqrtFastest (w : Family) (rd rs1 : RegNum)
  /-- SQRT.PRECISE (42_sqrt_rcp.md R210). -/
  | sqrtPrecise (w : Family) (rd rs1 : RegNum)
  /-- RSQRT (42_sqrt_rcp.md R216). -/
  | rsqrt (w : Family) (rd rs1 : RegNum)
  /-- RSQRT.FAST (42_sqrt_rcp.md R217). -/
  | rsqrtFast (w : Family) (rd rs1 : RegNum)
  /-- RSQRT.FASTEST (42_sqrt_rcp.md R218). -/
  | rsqrtFastest (w : Family) (rd rs1 : RegNum)
  /-- RCP (42_sqrt_rcp.md R220). -/
  | rcp (w : Family) (rd rs1 : RegNum)
  /-- RCP.FAST (42_sqrt_rcp.md R221). -/
  | rcpFast (w : Family) (rd rs1 : RegNum)
  /-- RCP.FASTEST (42_sqrt_rcp.md R222). -/
  | rcpFastest (w : Family) (rd rs1 : RegNum)
  /-- EXP2 (43_transcendental.md R241). -/
  | exp2 (w : Family) (rd rs1 : RegNum)
  /-- EXP2.FAST (43_transcendental.md R242). -/
  | exp2Fast (w : Family) (rd rs1 : RegNum)
  /-- EXP2.FASTEST (43_transcendental.md R243). -/
  | exp2Fastest (w : Family) (rd rs1 : RegNum)
  /-- LOG2 (43_transcendental.md R245). -/
  | log2 (w : Family) (rd rs1 : RegNum)
  /-- LOG2.FAST (43_transcendental.md R246). -/
  | log2Fast (w : Family) (rd rs1 : RegNum)
  /-- LOG2.FASTEST (43_transcendental.md R247). -/
  | log2Fastest (w : Family) (rd rs1 : RegNum)
  /-- EXP (43_transcendental.md R249). -/
  | exp (w : Family) (rd rs1 : RegNum)
  /-- EXP.FAST (43_transcendental.md R250). -/
  | expFast (w : Family) (rd rs1 : RegNum)
  /-- EXP.FASTEST (43_transcendental.md R251). -/
  | expFastest (w : Family) (rd rs1 : RegNum)
  /-- LOG (43_transcendental.md R253). -/
  | log (w : Family) (rd rs1 : RegNum)
  /-- LOG.FAST (43_transcendental.md R254). -/
  | logFast (w : Family) (rd rs1 : RegNum)
  /-- LOG.FASTEST (43_transcendental.md R255). -/
  | logFastest (w : Family) (rd rs1 : RegNum)
  /-- POW (43_transcendental.md R257). -/
  | pow (w : Family) (rd rs1 rs2 : RegNum)
  /-- POW.FAST (43_transcendental.md R258). -/
  | powFast (w : Family) (rd rs1 rs2 : RegNum)
  /-- POW.FASTEST (43_transcendental.md R259). -/
  | powFastest (w : Family) (rd rs1 rs2 : RegNum)
  /-- SIN (43_transcendental.md R261). -/
  | sin (w : Family) (rd rs1 : RegNum)
  /-- SIN.FAST (43_transcendental.md R262). -/
  | sinFast (w : Family) (rd rs1 : RegNum)
  /-- SIN.FASTEST (43_transcendental.md R263). -/
  | sinFastest (w : Family) (rd rs1 : RegNum)
  /-- COS (43_transcendental.md R265). -/
  | cos (w : Family) (rd rs1 : RegNum)
  /-- COS.FAST (43_transcendental.md R266). -/
  | cosFast (w : Family) (rd rs1 : RegNum)
  /-- COS.FASTEST (43_transcendental.md R267). -/
  | cosFastest (w : Family) (rd rs1 : RegNum)
  /-- TAN (43_transcendental.md R269). -/
  | tan (w : Family) (rd rs1 : RegNum)
  /-- TAN.FAST (43_transcendental.md R270). -/
  | tanFast (w : Family) (rd rs1 : RegNum)
  /-- TAN.FASTEST (43_transcendental.md R271). -/
  | tanFastest (w : Family) (rd rs1 : RegNum)
  /-- ATAN2 (43_transcendental.md R273). -/
  | atan2 (w : Family) (rd rs1 rs2 : RegNum)
  /-- ATAN2.FAST (43_transcendental.md R274). -/
  | atan2Fast (w : Family) (rd rs1 rs2 : RegNum)
  /-- ATAN2.FASTEST (43_transcendental.md R275). -/
  | atan2Fastest (w : Family) (rd rs1 rs2 : RegNum)
  /-- ASIN (43_transcendental.md R277). -/
  | asin (w : Family) (rd rs1 : RegNum)
  /-- ASIN.FAST (43_transcendental.md R278). -/
  | asinFast (w : Family) (rd rs1 : RegNum)
  /-- ASIN.FASTEST (43_transcendental.md R279). -/
  | asinFastest (w : Family) (rd rs1 : RegNum)
  /-- ACOS (43_transcendental.md R281). -/
  | acos (w : Family) (rd rs1 : RegNum)
  /-- ACOS.FAST (43_transcendental.md R282). -/
  | acosFast (w : Family) (rd rs1 : RegNum)
  /-- ACOS.FASTEST (43_transcendental.md R283). -/
  | acosFastest (w : Family) (rd rs1 : RegNum)
  /-- DOT (44_vector.md R304). -/
  | dot (w : Family) (vl : VLen) (rd rs1 rs2 : RegNum)
  /-- CROSS (44_vector.md R305). -/
  | cross (w : Family) (rd rs1 rs2 : RegNum)
  /-- LENSQR (44_vector.md R306). -/
  | lensqr (w : Family) (vl : VLen) (rd rs1 : RegNum)
  /-- LENSQRW (44_vector.md R307). -/
  | lensqrw (vl : VLen) (rd rs1 : RegNum)
  /-- LENGTH (44_vector.md R309). -/
  | length (w : Family) (vl : VLen) (rd rs1 : RegNum)
  /-- LENGTH.FAST (44_vector.md R310). -/
  | lengthFast (w : Family) (vl : VLen) (rd rs1 : RegNum)
  /-- LENGTH.FASTEST (44_vector.md R311). -/
  | lengthFastest (w : Family) (vl : VLen) (rd rs1 : RegNum)
  /-- LENGTH.PRECISE (44_vector.md R312). -/
  | lengthPrecise (w : Family) (vl : VLen) (rd rs1 : RegNum)
  /-- NORM (44_vector.md R314). -/
  | norm (w : Family) (vl : VLen) (rd rs1 : RegNum)
  /-- NORM.FAST (44_vector.md R315). -/
  | normFast (w : Family) (vl : VLen) (rd rs1 : RegNum)
  /-- NORM.FASTEST (44_vector.md R316). -/
  | normFastest (w : Family) (vl : VLen) (rd rs1 : RegNum)
  /-- CLAMPLEN (44_vector.md R318). -/
  | clamplen (w : Family) (vl : VLen) (rd rs1 rs2 : RegNum)
  /-- CLAMPLEN.FAST (44_vector.md R319). -/
  | clamplenFast (w : Family) (vl : VLen) (rd rs1 rs2 : RegNum)
  /-- CLAMPLEN.FASTEST (44_vector.md R320). -/
  | clamplenFastest (w : Family) (vl : VLen) (rd rs1 rs2 : RegNum)
deriving DecidableEq, Repr

end Sys2Proof
end

