-- ==== Sys2Proof/WellFormed.lean ====
section
/-! DEFINITION. Which terms of Instr are legal commands: the conditions of 30_encoding.md R99 that the types
of the arguments leave open. A row's fixed fields and admitted W and TIER hold by the syntax. -/

namespace Sys2Proof

/-- A group of `n = VL + 1` registers from base `r` does not run past R31: `field + n - 1 <= 31`
(30_encoding.md R100). -/
def groupFits (vl : VLen) (r : RegNum) : Bool := decide (r.toNat + vl.count - 1 ≤ 31)

/-- S = 1 needs VL >= 1 (30_encoding.md R96). -/
def broadcastFits (vl : VLen) (sb : Bool) : Bool := !sb || decide (vl ≠ .x1)

/-- A row that admits VL = 1, 2, 3 only (30_encoding.md R98). -/
def vectorLength (vl : VLen) : Bool := decide (vl ≠ .x1)

/-- The constant ROM has entries 0 to 15 (30_encoding.md R101). -/
def romIndexFits (k : RegNum) : Bool := decide (k.toNat < 16)

/-- The term is a legal command (30_encoding.md R99). -/
def Instr.wellFormed : Instr → Bool
  | .nop => true
  | .mov _ vl rd rs1 => groupFits vl rd && groupFits vl rs1
  | .const _ _ k => romIndexFits k
  | .widen vl rd rs1 => groupFits vl rd && groupFits vl rs1
  | .narrow vl rd rs1 => groupFits vl rd && groupFits vl rs1
  | .fromint _ _ _ => true
  | .floor _ _ _ => true
  | .ceil _ _ _ => true
  | .round _ _ _ => true
  | .fromf _ _ _ => true
  | .fromd _ _ _ => true
  | .tof _ _ _ => true
  | .tod _ _ _ => true
  | .ratio _ _ _ _ => true
  | .cmp _ _ _ _ => true
  | .add _ vl sb rd rs1 rs2 => broadcastFits vl sb && groupFits vl rd && groupFits vl rs1 && (sb || groupFits vl rs2)
  | .sub _ vl sb rd rs1 rs2 => broadcastFits vl sb && groupFits vl rd && groupFits vl rs1 && (sb || groupFits vl rs2)
  | .mul _ vl sb rd rs1 rs2 => broadcastFits vl sb && groupFits vl rd && groupFits vl rs1 && (sb || groupFits vl rs2)
  | .div _ vl sb rd rs1 rs2 => broadcastFits vl sb && groupFits vl rd && groupFits vl rs1 && (sb || groupFits vl rs2)
  | .divFast _ vl sb rd rs1 rs2 => broadcastFits vl sb && groupFits vl rd && groupFits vl rs1 && (sb || groupFits vl rs2)
  | .divFastest _ vl sb rd rs1 rs2 => broadcastFits vl sb && groupFits vl rd && groupFits vl rs1 && (sb || groupFits vl rs2)
  | .divPrecise _ vl sb rd rs1 rs2 => broadcastFits vl sb && groupFits vl rd && groupFits vl rs1 && (sb || groupFits vl rs2)
  | .mod _ vl sb rd rs1 rs2 => broadcastFits vl sb && groupFits vl rd && groupFits vl rs1 && (sb || groupFits vl rs2)
  | .neg _ _ _ => true
  | .abs _ _ _ => true
  | .min _ _ _ _ => true
  | .max _ _ _ _ => true
  | .clamp _ vl sb rd rs1 rs2 rs3 => broadcastFits vl sb && groupFits vl rd && groupFits vl rs1 && (sb || groupFits vl rs2) && (sb || groupFits vl rs3)
  | .lerp _ vl rd rs1 rs2 _ => groupFits vl rd && groupFits vl rs1 && groupFits vl rs2
  | .sqrt _ _ _ => true
  | .sqrtFast _ _ _ => true
  | .sqrtFastest _ _ _ => true
  | .sqrtPrecise _ _ _ => true
  | .rsqrt _ _ _ => true
  | .rsqrtFast _ _ _ => true
  | .rsqrtFastest _ _ _ => true
  | .rcp _ _ _ => true
  | .rcpFast _ _ _ => true
  | .rcpFastest _ _ _ => true
  | .exp2 _ _ _ => true
  | .exp2Fast _ _ _ => true
  | .exp2Fastest _ _ _ => true
  | .log2 _ _ _ => true
  | .log2Fast _ _ _ => true
  | .log2Fastest _ _ _ => true
  | .exp _ _ _ => true
  | .expFast _ _ _ => true
  | .expFastest _ _ _ => true
  | .log _ _ _ => true
  | .logFast _ _ _ => true
  | .logFastest _ _ _ => true
  | .pow _ _ _ _ => true
  | .powFast _ _ _ _ => true
  | .powFastest _ _ _ _ => true
  | .sin _ _ _ => true
  | .sinFast _ _ _ => true
  | .sinFastest _ _ _ => true
  | .cos _ _ _ => true
  | .cosFast _ _ _ => true
  | .cosFastest _ _ _ => true
  | .tan _ _ _ => true
  | .tanFast _ _ _ => true
  | .tanFastest _ _ _ => true
  | .atan2 _ _ _ _ => true
  | .atan2Fast _ _ _ _ => true
  | .atan2Fastest _ _ _ _ => true
  | .asin _ _ _ => true
  | .asinFast _ _ _ => true
  | .asinFastest _ _ _ => true
  | .acos _ _ _ => true
  | .acosFast _ _ _ => true
  | .acosFastest _ _ _ => true
  | .dot _ vl _ rs1 rs2 => vectorLength vl && groupFits vl rs1 && groupFits vl rs2
  | .cross _ rd rs1 rs2 => groupFits .x3 rd && groupFits .x3 rs1 && groupFits .x3 rs2
  | .lensqr _ vl _ rs1 => vectorLength vl && groupFits vl rs1
  | .lensqrw vl _ rs1 => vectorLength vl && groupFits vl rs1
  | .length _ vl _ rs1 => vectorLength vl && groupFits vl rs1
  | .lengthFast _ vl _ rs1 => vectorLength vl && groupFits vl rs1
  | .lengthFastest _ vl _ rs1 => vectorLength vl && groupFits vl rs1
  | .lengthPrecise _ vl _ rs1 => vectorLength vl && groupFits vl rs1
  | .norm _ vl rd rs1 => vectorLength vl && groupFits vl rd && groupFits vl rs1
  | .normFast _ vl rd rs1 => vectorLength vl && groupFits vl rd && groupFits vl rs1
  | .normFastest _ vl rd rs1 => vectorLength vl && groupFits vl rd && groupFits vl rs1
  | .clamplen _ vl rd rs1 _ => vectorLength vl && groupFits vl rd && groupFits vl rs1
  | .clamplenFast _ vl rd rs1 _ => vectorLength vl && groupFits vl rd && groupFits vl rs1
  | .clamplenFastest _ vl rd rs1 _ => vectorLength vl && groupFits vl rd && groupFits vl rs1

end Sys2Proof
end

