-- ==== Sys2Proof/Decode.lean ====
section
/-! DEFINITION. The C-format of a command word (30_encoding.md R90), the legality table (R98), the legality
test (R99 to R102), the decoder, total and rejecting by name, and after it the encoder. -/

namespace Sys2Proof

/-- The fields of a command word (30_encoding.md R90). -/
structure Fields where
  op   : BitVec 6
  w    : BitVec 1
  tier : BitVec 2
  vl   : BitVec 2
  s    : BitVec 1
  rd   : RegNum
  rs1  : RegNum
  rs2  : RegNum
  rs3  : RegNum
deriving DecidableEq, Repr

/-- `OP = cmd[5:0]`, `W = cmd[6]`, `TIER = cmd[8:7]`, `VL = cmd[10:9]`, `S = cmd[11]`, `RD = cmd[16:12]`,
`RS1 = cmd[21:17]`, `RS2 = cmd[26:22]`, `RS3 = cmd[31:27]` (30_encoding.md R90). -/
def unpack (c : Word32) : Fields where
  op   := c.extractLsb' 0 6
  w    := c.extractLsb' 6 1
  tier := c.extractLsb' 7 2
  vl   := c.extractLsb' 9 2
  s    := c.extractLsb' 11 1
  rd   := c.extractLsb' 12 5
  rs1  := c.extractLsb' 17 5
  rs2  := c.extractLsb' 22 5
  rs3  := c.extractLsb' 27 5

/-- The command word with these fields, RS3 in the most significant place (30_encoding.md R90). -/
def pack (f : Fields) : Word32 :=
  f.rs3 ++ f.rs2 ++ f.rs1 ++ f.rd ++ f.s ++ f.vl ++ f.tier ++ f.w ++ f.op

/-- How a row's shape uses a register field: not at all ("-"), as one register (a lower-case letter), as a
group (a capital), or as CONST's index ("#k") (30_encoding.md R98). -/
inductive Use where
  | unused
  | one
  | group
  | index
deriving DecidableEq, Repr

/-- One row of the legality and operand-shape table (30_encoding.md R98): the assembler's name, OP, the uses
of RD, RS1, RS2 and RS3, the admitted W, TIER and VL, and whether S = 1 is admitted. -/
structure Row where
  name  : String
  op    : BitVec 6
  d     : Use
  a     : Use
  b     : Use
  c     : Use
  fams  : List (BitVec 1)
  tiers : List (BitVec 2)
  vls   : List (BitVec 2)
  bcast : Bool
deriving DecidableEq, Repr

/-- The rows of 30_encoding.md R98: data movement and conversion, 0x00 to 0x0E. -/
def conversionRows : List Row := [
  ⟨"nop", 0x00, .unused, .unused, .unused, .unused, [0], [0], [0], false⟩,
  ⟨"mov", 0x01, .group, .group, .unused, .unused, [0, 1], [0], [0, 1, 2, 3], false⟩,
  ⟨"const", 0x02, .one, .index, .unused, .unused, [0, 1], [0], [0], false⟩,
  ⟨"widen", 0x03, .group, .group, .unused, .unused, [1], [0], [0, 1, 2, 3], false⟩,
  ⟨"narrow", 0x04, .group, .group, .unused, .unused, [0], [0], [0, 1, 2, 3], false⟩,
  ⟨"fromint", 0x05, .one, .one, .unused, .unused, [0, 1], [0], [0], false⟩,
  ⟨"floor", 0x06, .one, .one, .unused, .unused, [0, 1], [0], [0], false⟩,
  ⟨"ceil", 0x07, .one, .one, .unused, .unused, [0, 1], [0], [0], false⟩,
  ⟨"round", 0x08, .one, .one, .unused, .unused, [0, 1], [0], [0], false⟩,
  ⟨"fromf", 0x09, .one, .one, .unused, .unused, [0, 1], [0], [0], false⟩,
  ⟨"fromd", 0x0A, .one, .one, .unused, .unused, [0, 1], [0], [0], false⟩,
  ⟨"tof", 0x0B, .one, .one, .unused, .unused, [0, 1], [0], [0], false⟩,
  ⟨"tod", 0x0C, .one, .one, .unused, .unused, [0, 1], [0], [0], false⟩,
  ⟨"ratio", 0x0D, .one, .one, .one, .unused, [0, 1], [0], [0], false⟩,
  ⟨"cmp", 0x0E, .one, .one, .one, .unused, [0, 1], [0], [0], false⟩]

/-- The rows of 30_encoding.md R98: arithmetic, 0x10 to 0x1A. -/
def arithRows : List Row := [
  ⟨"add", 0x10, .group, .group, .group, .unused, [0, 1], [0], [0, 1, 2, 3], true⟩,
  ⟨"sub", 0x11, .group, .group, .group, .unused, [0, 1], [0], [0, 1, 2, 3], true⟩,
  ⟨"mul", 0x12, .group, .group, .group, .unused, [0, 1], [0], [0, 1, 2, 3], true⟩,
  ⟨"div", 0x13, .group, .group, .group, .unused, [0, 1], [0, 1, 2, 3], [0, 1, 2, 3], true⟩,
  ⟨"mod", 0x14, .group, .group, .group, .unused, [0, 1], [0], [0, 1, 2, 3], true⟩,
  ⟨"neg", 0x15, .one, .one, .unused, .unused, [0, 1], [0], [0], false⟩,
  ⟨"abs", 0x16, .one, .one, .unused, .unused, [0, 1], [0], [0], false⟩,
  ⟨"min", 0x17, .one, .one, .one, .unused, [0, 1], [0], [0], false⟩,
  ⟨"max", 0x18, .one, .one, .one, .unused, [0, 1], [0], [0], false⟩,
  ⟨"clamp", 0x19, .group, .group, .group, .group, [0, 1], [0], [0, 1, 2, 3], true⟩,
  ⟨"lerp", 0x1A, .group, .group, .group, .one, [0, 1], [0], [0, 1, 2, 3], false⟩]

/-- The rows of 30_encoding.md R98: reciprocal and square root, 0x20 to 0x22. -/
def rootRows : List Row := [
  ⟨"sqrt", 0x20, .one, .one, .unused, .unused, [0, 1], [0, 1, 2, 3], [0], false⟩,
  ⟨"rsqrt", 0x21, .one, .one, .unused, .unused, [0, 1], [0, 1, 2], [0], false⟩,
  ⟨"rcp", 0x22, .one, .one, .unused, .unused, [0, 1], [0, 1, 2], [0], false⟩]

/-- The rows of 30_encoding.md R98: transcendentals, 0x28 to 0x32. -/
def transcendentalRows : List Row := [
  ⟨"exp2", 0x28, .one, .one, .unused, .unused, [0, 1], [0, 1, 2], [0], false⟩,
  ⟨"log2", 0x29, .one, .one, .unused, .unused, [0, 1], [0, 1, 2], [0], false⟩,
  ⟨"exp", 0x2A, .one, .one, .unused, .unused, [0, 1], [0, 1, 2], [0], false⟩,
  ⟨"log", 0x2B, .one, .one, .unused, .unused, [0, 1], [0, 1, 2], [0], false⟩,
  ⟨"pow", 0x2C, .one, .one, .one, .unused, [0, 1], [0, 1, 2], [0], false⟩,
  ⟨"sin", 0x2D, .one, .one, .unused, .unused, [0, 1], [0, 1, 2], [0], false⟩,
  ⟨"cos", 0x2E, .one, .one, .unused, .unused, [0, 1], [0, 1, 2], [0], false⟩,
  ⟨"tan", 0x2F, .one, .one, .unused, .unused, [0, 1], [0, 1, 2], [0], false⟩,
  ⟨"atan2", 0x30, .one, .one, .one, .unused, [0, 1], [0, 1, 2], [0], false⟩,
  ⟨"asin", 0x31, .one, .one, .unused, .unused, [0, 1], [0, 1, 2], [0], false⟩,
  ⟨"acos", 0x32, .one, .one, .unused, .unused, [0, 1], [0, 1, 2], [0], false⟩]

/-- The rows of 30_encoding.md R98: vector operations, 0x38 to 0x3E. -/
def vectorRows : List Row := [
  ⟨"dot", 0x38, .one, .group, .group, .unused, [0, 1], [0], [1, 2, 3], false⟩,
  ⟨"cross", 0x39, .group, .group, .group, .unused, [0, 1], [0], [2], false⟩,
  ⟨"lensqr", 0x3A, .one, .group, .unused, .unused, [0, 1], [0], [1, 2, 3], false⟩,
  ⟨"lensqrw", 0x3B, .one, .group, .unused, .unused, [0], [0], [1, 2, 3], false⟩,
  ⟨"length", 0x3C, .one, .group, .unused, .unused, [0, 1], [0, 1, 2, 3], [1, 2, 3], false⟩,
  ⟨"norm", 0x3D, .group, .group, .unused, .unused, [0, 1], [0, 1, 2], [1, 2, 3], false⟩,
  ⟨"clamplen", 0x3E, .group, .group, .one, .unused, [0, 1], [0, 1, 2], [1, 2, 3], false⟩]

/-- The table of 30_encoding.md R98: 47 opcodes. -/
def rows : List Row := conversionRows ++ arithRows ++ rootRows ++ transcendentalRows ++ vectorRows

/-- The row of an opcode; none for a reserved opcode (30_encoding.md R91, R102). -/
def rowOf (op : BitVec 6) : Option Row := rows.find? fun r => r.op == op

/-- Every register field whose shape is "-" is 0 (30_encoding.md R95, R99). -/
def unusedZero (r : Row) (f : Fields) : Bool :=
  (r.d != .unused || f.rd == 0) && (r.a != .unused || f.rs1 == 0) &&
  (r.b != .unused || f.rs2 == 0) && (r.c != .unused || f.rs3 == 0)

/-- One field of `groups_in_range`: `field + n - 1 <= 31` where the field is read as a group
(30_encoding.md R100). -/
def fieldInRange (isGroup : Bool) (f : Fields) (r : RegNum) : Bool :=
  !isGroup || decide (r.toNat + (f.vl.toNat + 1) - 1 ≤ 31)

/-- `groups_in_range(c)`: with S = 1 the fields B and C are scalars (30_encoding.md R96, R100). -/
def groupsInRange (r : Row) (f : Fields) : Bool :=
  fieldInRange (r.d == .group) f f.rd && fieldInRange (r.a == .group) f f.rs1 &&
  fieldInRange (r.b == .group && f.s == 0) f f.rs2 && fieldInRange (r.c == .group && f.s == 0) f f.rs3

/-- `S(c) = 0 || (row(OP).S allows 1 && VL(c) >= 1)` (30_encoding.md R96, R99). -/
def broadcastAdmitted (r : Row) (f : Fields) : Bool := f.s == 0 || (r.bcast && f.vl != 0)

/-- `OP(c) != CONST || RS1(c) < 16` (30_encoding.md R99, R101). -/
def indexInRange (r : Row) (f : Fields) : Bool := r.a != .index || decide (f.rs1.toNat < 16)

/-- `legal(c)` (30_encoding.md R99). -/
def legal (c : Word32) : Bool :=
  match rowOf (unpack c).op with
  | none => false
  | some r =>
    r.fams.contains (unpack c).w && r.tiers.contains (unpack c).tier && r.vls.contains (unpack c).vl &&
    broadcastAdmitted r (unpack c) && unusedZero r (unpack c) && groupsInRange r (unpack c) &&
    indexInRange r (unpack c)

/-- Why a command word is illegal (60_exceptions.md R341 lists the causes). The machine does not report
which: each is IllegalCommand. -/
inductive DecodeError where
  /-- A reserved OP (30_encoding.md R102). -/
  | reservedOpcode
  /-- A W that the row does not admit (R98). -/
  | family
  /-- A TIER that the row does not admit (R93, R98). -/
  | tier
  /-- A VL that the row does not admit (R94, R98). -/
  | vectorLength
  /-- S = 1 where it is not admitted, or with VL = 0 (R96). -/
  | broadcast
  /-- A non-zero unused register field (R95). -/
  | unusedField
  /-- A group that runs past R31 (R100). -/
  | groupRange
  /-- CONST with k >= 16 (R101). -/
  | constIndex
deriving DecidableEq, Repr

/-- The family that a W bit names (30_encoding.md R92). -/
def Family.ofCode (b : BitVec 1) : Family := if b = 0 then .q16 else .q32

/-- The vector length that a VL field names (30_encoding.md R94). -/
def VLen.ofCode (b : BitVec 2) : VLen :=
  if b = 0 then .x1 else if b = 1 then .x2 else if b = 2 then .x3 else .x4

/-- The command that an OP and a TIER name, with its arguments (30_encoding.md R98, R105); none where no row
has that OP and TIER. -/
def build (f : Fields) : Option Instr :=
  match f.op.toNat, f.tier.toNat with
  | 0x00, 0 => some (.nop)
  | 0x01, 0 => some (.mov (Family.ofCode f.w) (VLen.ofCode f.vl) f.rd f.rs1)
  | 0x02, 0 => some (.const (Family.ofCode f.w) f.rd f.rs1)
  | 0x03, 0 => some (.widen (VLen.ofCode f.vl) f.rd f.rs1)
  | 0x04, 0 => some (.narrow (VLen.ofCode f.vl) f.rd f.rs1)
  | 0x05, 0 => some (.fromint (Family.ofCode f.w) f.rd f.rs1)
  | 0x06, 0 => some (.floor (Family.ofCode f.w) f.rd f.rs1)
  | 0x07, 0 => some (.ceil (Family.ofCode f.w) f.rd f.rs1)
  | 0x08, 0 => some (.round (Family.ofCode f.w) f.rd f.rs1)
  | 0x09, 0 => some (.fromf (Family.ofCode f.w) f.rd f.rs1)
  | 0x0A, 0 => some (.fromd (Family.ofCode f.w) f.rd f.rs1)
  | 0x0B, 0 => some (.tof (Family.ofCode f.w) f.rd f.rs1)
  | 0x0C, 0 => some (.tod (Family.ofCode f.w) f.rd f.rs1)
  | 0x0D, 0 => some (.ratio (Family.ofCode f.w) f.rd f.rs1 f.rs2)
  | 0x0E, 0 => some (.cmp (Family.ofCode f.w) f.rd f.rs1 f.rs2)
  | 0x10, 0 => some (.add (Family.ofCode f.w) (VLen.ofCode f.vl) (f.s == 1) f.rd f.rs1 f.rs2)
  | 0x11, 0 => some (.sub (Family.ofCode f.w) (VLen.ofCode f.vl) (f.s == 1) f.rd f.rs1 f.rs2)
  | 0x12, 0 => some (.mul (Family.ofCode f.w) (VLen.ofCode f.vl) (f.s == 1) f.rd f.rs1 f.rs2)
  | 0x13, 0 => some (.div (Family.ofCode f.w) (VLen.ofCode f.vl) (f.s == 1) f.rd f.rs1 f.rs2)
  | 0x13, 1 => some (.divFast (Family.ofCode f.w) (VLen.ofCode f.vl) (f.s == 1) f.rd f.rs1 f.rs2)
  | 0x13, 2 => some (.divFastest (Family.ofCode f.w) (VLen.ofCode f.vl) (f.s == 1) f.rd f.rs1 f.rs2)
  | 0x13, 3 => some (.divPrecise (Family.ofCode f.w) (VLen.ofCode f.vl) (f.s == 1) f.rd f.rs1 f.rs2)
  | 0x14, 0 => some (.mod (Family.ofCode f.w) (VLen.ofCode f.vl) (f.s == 1) f.rd f.rs1 f.rs2)
  | 0x15, 0 => some (.neg (Family.ofCode f.w) f.rd f.rs1)
  | 0x16, 0 => some (.abs (Family.ofCode f.w) f.rd f.rs1)
  | 0x17, 0 => some (.min (Family.ofCode f.w) f.rd f.rs1 f.rs2)
  | 0x18, 0 => some (.max (Family.ofCode f.w) f.rd f.rs1 f.rs2)
  | 0x19, 0 => some (.clamp (Family.ofCode f.w) (VLen.ofCode f.vl) (f.s == 1) f.rd f.rs1 f.rs2 f.rs3)
  | 0x1A, 0 => some (.lerp (Family.ofCode f.w) (VLen.ofCode f.vl) f.rd f.rs1 f.rs2 f.rs3)
  | 0x20, 0 => some (.sqrt (Family.ofCode f.w) f.rd f.rs1)
  | 0x20, 1 => some (.sqrtFast (Family.ofCode f.w) f.rd f.rs1)
  | 0x20, 2 => some (.sqrtFastest (Family.ofCode f.w) f.rd f.rs1)
  | 0x20, 3 => some (.sqrtPrecise (Family.ofCode f.w) f.rd f.rs1)
  | 0x21, 0 => some (.rsqrt (Family.ofCode f.w) f.rd f.rs1)
  | 0x21, 1 => some (.rsqrtFast (Family.ofCode f.w) f.rd f.rs1)
  | 0x21, 2 => some (.rsqrtFastest (Family.ofCode f.w) f.rd f.rs1)
  | 0x22, 0 => some (.rcp (Family.ofCode f.w) f.rd f.rs1)
  | 0x22, 1 => some (.rcpFast (Family.ofCode f.w) f.rd f.rs1)
  | 0x22, 2 => some (.rcpFastest (Family.ofCode f.w) f.rd f.rs1)
  | 0x28, 0 => some (.exp2 (Family.ofCode f.w) f.rd f.rs1)
  | 0x28, 1 => some (.exp2Fast (Family.ofCode f.w) f.rd f.rs1)
  | 0x28, 2 => some (.exp2Fastest (Family.ofCode f.w) f.rd f.rs1)
  | 0x29, 0 => some (.log2 (Family.ofCode f.w) f.rd f.rs1)
  | 0x29, 1 => some (.log2Fast (Family.ofCode f.w) f.rd f.rs1)
  | 0x29, 2 => some (.log2Fastest (Family.ofCode f.w) f.rd f.rs1)
  | 0x2A, 0 => some (.exp (Family.ofCode f.w) f.rd f.rs1)
  | 0x2A, 1 => some (.expFast (Family.ofCode f.w) f.rd f.rs1)
  | 0x2A, 2 => some (.expFastest (Family.ofCode f.w) f.rd f.rs1)
  | 0x2B, 0 => some (.log (Family.ofCode f.w) f.rd f.rs1)
  | 0x2B, 1 => some (.logFast (Family.ofCode f.w) f.rd f.rs1)
  | 0x2B, 2 => some (.logFastest (Family.ofCode f.w) f.rd f.rs1)
  | 0x2C, 0 => some (.pow (Family.ofCode f.w) f.rd f.rs1 f.rs2)
  | 0x2C, 1 => some (.powFast (Family.ofCode f.w) f.rd f.rs1 f.rs2)
  | 0x2C, 2 => some (.powFastest (Family.ofCode f.w) f.rd f.rs1 f.rs2)
  | 0x2D, 0 => some (.sin (Family.ofCode f.w) f.rd f.rs1)
  | 0x2D, 1 => some (.sinFast (Family.ofCode f.w) f.rd f.rs1)
  | 0x2D, 2 => some (.sinFastest (Family.ofCode f.w) f.rd f.rs1)
  | 0x2E, 0 => some (.cos (Family.ofCode f.w) f.rd f.rs1)
  | 0x2E, 1 => some (.cosFast (Family.ofCode f.w) f.rd f.rs1)
  | 0x2E, 2 => some (.cosFastest (Family.ofCode f.w) f.rd f.rs1)
  | 0x2F, 0 => some (.tan (Family.ofCode f.w) f.rd f.rs1)
  | 0x2F, 1 => some (.tanFast (Family.ofCode f.w) f.rd f.rs1)
  | 0x2F, 2 => some (.tanFastest (Family.ofCode f.w) f.rd f.rs1)
  | 0x30, 0 => some (.atan2 (Family.ofCode f.w) f.rd f.rs1 f.rs2)
  | 0x30, 1 => some (.atan2Fast (Family.ofCode f.w) f.rd f.rs1 f.rs2)
  | 0x30, 2 => some (.atan2Fastest (Family.ofCode f.w) f.rd f.rs1 f.rs2)
  | 0x31, 0 => some (.asin (Family.ofCode f.w) f.rd f.rs1)
  | 0x31, 1 => some (.asinFast (Family.ofCode f.w) f.rd f.rs1)
  | 0x31, 2 => some (.asinFastest (Family.ofCode f.w) f.rd f.rs1)
  | 0x32, 0 => some (.acos (Family.ofCode f.w) f.rd f.rs1)
  | 0x32, 1 => some (.acosFast (Family.ofCode f.w) f.rd f.rs1)
  | 0x32, 2 => some (.acosFastest (Family.ofCode f.w) f.rd f.rs1)
  | 0x38, 0 => some (.dot (Family.ofCode f.w) (VLen.ofCode f.vl) f.rd f.rs1 f.rs2)
  | 0x39, 0 => some (.cross (Family.ofCode f.w) f.rd f.rs1 f.rs2)
  | 0x3A, 0 => some (.lensqr (Family.ofCode f.w) (VLen.ofCode f.vl) f.rd f.rs1)
  | 0x3B, 0 => some (.lensqrw (VLen.ofCode f.vl) f.rd f.rs1)
  | 0x3C, 0 => some (.length (Family.ofCode f.w) (VLen.ofCode f.vl) f.rd f.rs1)
  | 0x3C, 1 => some (.lengthFast (Family.ofCode f.w) (VLen.ofCode f.vl) f.rd f.rs1)
  | 0x3C, 2 => some (.lengthFastest (Family.ofCode f.w) (VLen.ofCode f.vl) f.rd f.rs1)
  | 0x3C, 3 => some (.lengthPrecise (Family.ofCode f.w) (VLen.ofCode f.vl) f.rd f.rs1)
  | 0x3D, 0 => some (.norm (Family.ofCode f.w) (VLen.ofCode f.vl) f.rd f.rs1)
  | 0x3D, 1 => some (.normFast (Family.ofCode f.w) (VLen.ofCode f.vl) f.rd f.rs1)
  | 0x3D, 2 => some (.normFastest (Family.ofCode f.w) (VLen.ofCode f.vl) f.rd f.rs1)
  | 0x3E, 0 => some (.clamplen (Family.ofCode f.w) (VLen.ofCode f.vl) f.rd f.rs1 f.rs2)
  | 0x3E, 1 => some (.clamplenFast (Family.ofCode f.w) (VLen.ofCode f.vl) f.rd f.rs1 f.rs2)
  | 0x3E, 2 => some (.clamplenFastest (Family.ofCode f.w) (VLen.ofCode f.vl) f.rd f.rs1 f.rs2)
  | _, _ => none

/-- Decode the fields, each condition of 30_encoding.md R99 in its order, rejecting by name. -/
def decodeFields (f : Fields) : Except DecodeError Instr :=
  match rowOf f.op with
  | none => .error .reservedOpcode
  | some r =>
    if !r.fams.contains f.w then .error .family
    else if !r.tiers.contains f.tier then .error .tier
    else if !r.vls.contains f.vl then .error .vectorLength
    else if !broadcastAdmitted r f then .error .broadcast
    else if !unusedZero r f then .error .unusedField
    else if !groupsInRange r f then .error .groupRange
    else if !indexInRange r f then .error .constIndex
    else match build f with
      | some i => .ok i
      | none => .error .tier

/-- Decode one command word (30_encoding.md R90, R99, R103): every word is a legal command or is rejected. -/
def decode (c : Word32) : Except DecodeError Instr := decodeFields (unpack c)

/-- The instruction that the decoder reads from a table row's bits w, numbered as spec/opcode_table.json
numbers them; the bits at and above nbits are 0. A command word is one 32-bit access to CMD, whose bit 0 is
bit 0 of the word (20_memory.md R63). -/
def decodeTableWord (nbits w : Nat) : Option Instr :=
  match decode (BitVec.ofNat 32 (w % 2 ^ nbits)) with
  | .ok i => some i
  | .error _ => none

/-- The fields of a command's word (30_encoding.md R90, R98). -/
def Instr.fields : Instr → Fields
  | .nop => ⟨0x00, 0, 0, 0, 0, 0, 0, 0, 0⟩
  | .mov w vl rd rs1 => ⟨0x01, w.code, 0, vl.code, 0, rd, rs1, 0, 0⟩
  | .const w rd k => ⟨0x02, w.code, 0, 0, 0, rd, k, 0, 0⟩
  | .widen vl rd rs1 => ⟨0x03, 1, 0, vl.code, 0, rd, rs1, 0, 0⟩
  | .narrow vl rd rs1 => ⟨0x04, 0, 0, vl.code, 0, rd, rs1, 0, 0⟩
  | .fromint w rd rs1 => ⟨0x05, w.code, 0, 0, 0, rd, rs1, 0, 0⟩
  | .floor w rd rs1 => ⟨0x06, w.code, 0, 0, 0, rd, rs1, 0, 0⟩
  | .ceil w rd rs1 => ⟨0x07, w.code, 0, 0, 0, rd, rs1, 0, 0⟩
  | .round w rd rs1 => ⟨0x08, w.code, 0, 0, 0, rd, rs1, 0, 0⟩
  | .fromf w rd rs1 => ⟨0x09, w.code, 0, 0, 0, rd, rs1, 0, 0⟩
  | .fromd w rd rs1 => ⟨0x0A, w.code, 0, 0, 0, rd, rs1, 0, 0⟩
  | .tof w rd rs1 => ⟨0x0B, w.code, 0, 0, 0, rd, rs1, 0, 0⟩
  | .tod w rd rs1 => ⟨0x0C, w.code, 0, 0, 0, rd, rs1, 0, 0⟩
  | .ratio w rd rs1 rs2 => ⟨0x0D, w.code, 0, 0, 0, rd, rs1, rs2, 0⟩
  | .cmp w rd rs1 rs2 => ⟨0x0E, w.code, 0, 0, 0, rd, rs1, rs2, 0⟩
  | .add w vl sb rd rs1 rs2 => ⟨0x10, w.code, 0, vl.code, BitVec.ofBool sb, rd, rs1, rs2, 0⟩
  | .sub w vl sb rd rs1 rs2 => ⟨0x11, w.code, 0, vl.code, BitVec.ofBool sb, rd, rs1, rs2, 0⟩
  | .mul w vl sb rd rs1 rs2 => ⟨0x12, w.code, 0, vl.code, BitVec.ofBool sb, rd, rs1, rs2, 0⟩
  | .div w vl sb rd rs1 rs2 => ⟨0x13, w.code, 0, vl.code, BitVec.ofBool sb, rd, rs1, rs2, 0⟩
  | .divFast w vl sb rd rs1 rs2 => ⟨0x13, w.code, 1, vl.code, BitVec.ofBool sb, rd, rs1, rs2, 0⟩
  | .divFastest w vl sb rd rs1 rs2 => ⟨0x13, w.code, 2, vl.code, BitVec.ofBool sb, rd, rs1, rs2, 0⟩
  | .divPrecise w vl sb rd rs1 rs2 => ⟨0x13, w.code, 3, vl.code, BitVec.ofBool sb, rd, rs1, rs2, 0⟩
  | .mod w vl sb rd rs1 rs2 => ⟨0x14, w.code, 0, vl.code, BitVec.ofBool sb, rd, rs1, rs2, 0⟩
  | .neg w rd rs1 => ⟨0x15, w.code, 0, 0, 0, rd, rs1, 0, 0⟩
  | .abs w rd rs1 => ⟨0x16, w.code, 0, 0, 0, rd, rs1, 0, 0⟩
  | .min w rd rs1 rs2 => ⟨0x17, w.code, 0, 0, 0, rd, rs1, rs2, 0⟩
  | .max w rd rs1 rs2 => ⟨0x18, w.code, 0, 0, 0, rd, rs1, rs2, 0⟩
  | .clamp w vl sb rd rs1 rs2 rs3 => ⟨0x19, w.code, 0, vl.code, BitVec.ofBool sb, rd, rs1, rs2, rs3⟩
  | .lerp w vl rd rs1 rs2 rs3 => ⟨0x1A, w.code, 0, vl.code, 0, rd, rs1, rs2, rs3⟩
  | .sqrt w rd rs1 => ⟨0x20, w.code, 0, 0, 0, rd, rs1, 0, 0⟩
  | .sqrtFast w rd rs1 => ⟨0x20, w.code, 1, 0, 0, rd, rs1, 0, 0⟩
  | .sqrtFastest w rd rs1 => ⟨0x20, w.code, 2, 0, 0, rd, rs1, 0, 0⟩
  | .sqrtPrecise w rd rs1 => ⟨0x20, w.code, 3, 0, 0, rd, rs1, 0, 0⟩
  | .rsqrt w rd rs1 => ⟨0x21, w.code, 0, 0, 0, rd, rs1, 0, 0⟩
  | .rsqrtFast w rd rs1 => ⟨0x21, w.code, 1, 0, 0, rd, rs1, 0, 0⟩
  | .rsqrtFastest w rd rs1 => ⟨0x21, w.code, 2, 0, 0, rd, rs1, 0, 0⟩
  | .rcp w rd rs1 => ⟨0x22, w.code, 0, 0, 0, rd, rs1, 0, 0⟩
  | .rcpFast w rd rs1 => ⟨0x22, w.code, 1, 0, 0, rd, rs1, 0, 0⟩
  | .rcpFastest w rd rs1 => ⟨0x22, w.code, 2, 0, 0, rd, rs1, 0, 0⟩
  | .exp2 w rd rs1 => ⟨0x28, w.code, 0, 0, 0, rd, rs1, 0, 0⟩
  | .exp2Fast w rd rs1 => ⟨0x28, w.code, 1, 0, 0, rd, rs1, 0, 0⟩
  | .exp2Fastest w rd rs1 => ⟨0x28, w.code, 2, 0, 0, rd, rs1, 0, 0⟩
  | .log2 w rd rs1 => ⟨0x29, w.code, 0, 0, 0, rd, rs1, 0, 0⟩
  | .log2Fast w rd rs1 => ⟨0x29, w.code, 1, 0, 0, rd, rs1, 0, 0⟩
  | .log2Fastest w rd rs1 => ⟨0x29, w.code, 2, 0, 0, rd, rs1, 0, 0⟩
  | .exp w rd rs1 => ⟨0x2A, w.code, 0, 0, 0, rd, rs1, 0, 0⟩
  | .expFast w rd rs1 => ⟨0x2A, w.code, 1, 0, 0, rd, rs1, 0, 0⟩
  | .expFastest w rd rs1 => ⟨0x2A, w.code, 2, 0, 0, rd, rs1, 0, 0⟩
  | .log w rd rs1 => ⟨0x2B, w.code, 0, 0, 0, rd, rs1, 0, 0⟩
  | .logFast w rd rs1 => ⟨0x2B, w.code, 1, 0, 0, rd, rs1, 0, 0⟩
  | .logFastest w rd rs1 => ⟨0x2B, w.code, 2, 0, 0, rd, rs1, 0, 0⟩
  | .pow w rd rs1 rs2 => ⟨0x2C, w.code, 0, 0, 0, rd, rs1, rs2, 0⟩
  | .powFast w rd rs1 rs2 => ⟨0x2C, w.code, 1, 0, 0, rd, rs1, rs2, 0⟩
  | .powFastest w rd rs1 rs2 => ⟨0x2C, w.code, 2, 0, 0, rd, rs1, rs2, 0⟩
  | .sin w rd rs1 => ⟨0x2D, w.code, 0, 0, 0, rd, rs1, 0, 0⟩
  | .sinFast w rd rs1 => ⟨0x2D, w.code, 1, 0, 0, rd, rs1, 0, 0⟩
  | .sinFastest w rd rs1 => ⟨0x2D, w.code, 2, 0, 0, rd, rs1, 0, 0⟩
  | .cos w rd rs1 => ⟨0x2E, w.code, 0, 0, 0, rd, rs1, 0, 0⟩
  | .cosFast w rd rs1 => ⟨0x2E, w.code, 1, 0, 0, rd, rs1, 0, 0⟩
  | .cosFastest w rd rs1 => ⟨0x2E, w.code, 2, 0, 0, rd, rs1, 0, 0⟩
  | .tan w rd rs1 => ⟨0x2F, w.code, 0, 0, 0, rd, rs1, 0, 0⟩
  | .tanFast w rd rs1 => ⟨0x2F, w.code, 1, 0, 0, rd, rs1, 0, 0⟩
  | .tanFastest w rd rs1 => ⟨0x2F, w.code, 2, 0, 0, rd, rs1, 0, 0⟩
  | .atan2 w rd rs1 rs2 => ⟨0x30, w.code, 0, 0, 0, rd, rs1, rs2, 0⟩
  | .atan2Fast w rd rs1 rs2 => ⟨0x30, w.code, 1, 0, 0, rd, rs1, rs2, 0⟩
  | .atan2Fastest w rd rs1 rs2 => ⟨0x30, w.code, 2, 0, 0, rd, rs1, rs2, 0⟩
  | .asin w rd rs1 => ⟨0x31, w.code, 0, 0, 0, rd, rs1, 0, 0⟩
  | .asinFast w rd rs1 => ⟨0x31, w.code, 1, 0, 0, rd, rs1, 0, 0⟩
  | .asinFastest w rd rs1 => ⟨0x31, w.code, 2, 0, 0, rd, rs1, 0, 0⟩
  | .acos w rd rs1 => ⟨0x32, w.code, 0, 0, 0, rd, rs1, 0, 0⟩
  | .acosFast w rd rs1 => ⟨0x32, w.code, 1, 0, 0, rd, rs1, 0, 0⟩
  | .acosFastest w rd rs1 => ⟨0x32, w.code, 2, 0, 0, rd, rs1, 0, 0⟩
  | .dot w vl rd rs1 rs2 => ⟨0x38, w.code, 0, vl.code, 0, rd, rs1, rs2, 0⟩
  | .cross w rd rs1 rs2 => ⟨0x39, w.code, 0, 2, 0, rd, rs1, rs2, 0⟩
  | .lensqr w vl rd rs1 => ⟨0x3A, w.code, 0, vl.code, 0, rd, rs1, 0, 0⟩
  | .lensqrw vl rd rs1 => ⟨0x3B, 0, 0, vl.code, 0, rd, rs1, 0, 0⟩
  | .length w vl rd rs1 => ⟨0x3C, w.code, 0, vl.code, 0, rd, rs1, 0, 0⟩
  | .lengthFast w vl rd rs1 => ⟨0x3C, w.code, 1, vl.code, 0, rd, rs1, 0, 0⟩
  | .lengthFastest w vl rd rs1 => ⟨0x3C, w.code, 2, vl.code, 0, rd, rs1, 0, 0⟩
  | .lengthPrecise w vl rd rs1 => ⟨0x3C, w.code, 3, vl.code, 0, rd, rs1, 0, 0⟩
  | .norm w vl rd rs1 => ⟨0x3D, w.code, 0, vl.code, 0, rd, rs1, 0, 0⟩
  | .normFast w vl rd rs1 => ⟨0x3D, w.code, 1, vl.code, 0, rd, rs1, 0, 0⟩
  | .normFastest w vl rd rs1 => ⟨0x3D, w.code, 2, vl.code, 0, rd, rs1, 0, 0⟩
  | .clamplen w vl rd rs1 rs2 => ⟨0x3E, w.code, 0, vl.code, 0, rd, rs1, rs2, 0⟩
  | .clamplenFast w vl rd rs1 rs2 => ⟨0x3E, w.code, 1, vl.code, 0, rd, rs1, rs2, 0⟩
  | .clamplenFastest w vl rd rs1 rs2 => ⟨0x3E, w.code, 2, vl.code, 0, rd, rs1, rs2, 0⟩

/-- The word of a command (30_encoding.md R90). For a term that is not well formed it is the illegal word
with those fields. -/
def encode (i : Instr) : Word32 := pack i.fields

end Sys2Proof
end

