-- ==== Sys2Proof/Machine/State.lean ====
section
/-! DEFINITION. The state of the FXU as plain data (10_state.md), the host's accesses (20_memory.md R60, R61),
the reasons a step can stop, and the state at reset (10_state.md R52, 70_reset_and_hazards.md R380). -/

namespace Sys2Proof.Machine

/-- One host access to the window (00_scope.md R13): a read or a write at byte offset `off` of `size` bytes.
Only size 4 is admitted (20_memory.md R61), so a write carries 32 bits of data. -/
inductive HostAccess where
  | read (off size : Nat)
  | write (off size : Nat) (v : Word32)
deriving DecidableEq, Repr

/-- One event at the FXU's interfaces (10_state.md R50): a host access, the reset input between two accesses,
or the reset input while an access is being served (70_reset_and_hazards.md R381, R383). -/
inductive HostEvent where
  | access (a : HostAccess)
  | resetInput
  | resetDuring (a : HostAccess)
deriving DecidableEq, Repr

/-- Why a step stops with a fault. The architectural faults of 60_exceptions.md are next states, not these. -/
inductive Fault where
  /-- An access at an offset past the 1 KiB window (20_memory.md R60), raised by serveAccess. Safe: the window
  is all the address space there is, so no effect of the unit is lost (assumption log 9). -/
  | outsideWindow
deriving DecidableEq, Repr

/-- Why a step is refused. -/
inductive Refusal where
  /-- An instruction without a meaning, named by its mnemonic; exec has no such arm. Safe. -/
  | notModelled (mnemonic : String)
  /-- A host access that is not 32 bits wide (20_memory.md R61), raised by serveAccess. Safe: the spec has the
  model refuse it (assumption log 8). -/
  | accessSize
  /-- A host access at an offset that is no multiple of 4 (20_memory.md R62), raised by serveAccess. Safe: the
  spec has the model refuse it (assumption log 8). -/
  | misaligned
deriving DecidableEq, Repr

/-- The state of the FXU and of its host port. -/
structure State where
  /-- R0 to R31 (10_state.md R30). -/
  regs : Vector Word64 32
  /-- STATUS (10_state.md R43). -/
  status : Word32
  /-- CTRL (10_state.md R44). -/
  ctrl : Word32
  /-- CMDCNT (10_state.md R46). -/
  cmdcnt : Word32
  /-- FAULT_CMD (10_state.md R47). -/
  faultCmd : Word32
  /-- FAULT_INFO (10_state.md R48). -/
  faultInfo : Word32
  /-- FAULT_VAL_LO (10_state.md R49). -/
  faultValLo : Word32
  /-- FAULT_VAL_HI (10_state.md R49). -/
  faultValHi : Word32
  /-- STRICT, FRAC64 and the constant ROM, fixed when the unit is built (10_state.md R35, R36, R38, R42). -/
  build : Build
  /-- The rest of the host's sequence of accesses, with the reset input's events in place (10_state.md R33;
  the model's own field, assumption log 1). -/
  pending : List HostEvent
  /-- The index of the next access (10_state.md R33; the model's own field, assumption log 1). -/
  cmdidx : Nat
  /-- What the port has returned to the host's reads, newest first (20_memory.md R65; the model's own field,
  assumption log 2). -/
  reads : List Word32
  /-- How many draws of FLTCVT_OOR were taken (40_conversion.md R140; the model's own field, assumption
  log 6). -/
  draws : Nat
deriving DecidableEq, Repr

/-- The machine right after reset (10_state.md R52), a unit with the default build (00_scope.md R8), before
any host access. -/
def State.reset : State where
  regs       := Vector.replicate 32 0
  status     := 0
  ctrl       := 0
  cmdcnt     := 0
  faultCmd   := 0
  faultInfo  := 0
  faultValLo := 0
  faultValHi := 0
  build      := Config.defaultBuild
  pending    := []
  cmdidx     := 0
  reads      := []
  draws      := 0

end Sys2Proof.Machine
end

