-- ==== Sys2Proof/Machine/Flags.lean ====
section
/-! DEFINITION. The status bits. Arithmetic writes no flag (10_state.md R34); the only status bits are FAULT and
DISCARD of STATUS (R43), IRQ_EN of CTRL (R44), and the fields of FAULT_INFO (R48), which the fault mechanism of
60_exceptions.md and the host write. The irq output is computed from them (60_exceptions.md R349). -/

namespace Sys2Proof.Machine

/-- STATUS.FAULT, bit 0 (10_state.md R43). -/
def State.faultHeld (s : State) : Bool := s.status.getLsbD 0

/-- STATUS.DISCARD, bit 1 (10_state.md R43). -/
def State.discard (s : State) : Bool := s.status.getLsbD 1

/-- CTRL.IRQ_EN, bit 0 (10_state.md R44). -/
def State.irqEn (s : State) : Bool := s.ctrl.getLsbD 0

/-- `irq = STATUS.FAULT & CTRL.IRQ_EN` (60_exceptions.md R349). -/
def State.irq (s : State) : Bool := s.faultHeld && s.irqEn

/-- The word of STATUS with these two bits, the reserved bits 0 (10_state.md R43). -/
def statusWord (fault discard : Bool) : Word32 := (0 : BitVec 30) ++ BitVec.ofBool discard ++ BitVec.ofBool fault

/-- The two fault kinds (60_exceptions.md R340). -/
inductive Cause where
  | illegalCommand
  | domainFault
deriving DecidableEq, Repr

/-- The code of a fault kind in FAULT_INFO.CAUSE (60_exceptions.md R340). -/
def Cause.code : Cause → BitVec 4
  | .illegalCommand => 1
  | .domainFault => 2

/-- The word of FAULT_INFO: CAUSE in 3:0, ARG in 5:4, COMP in 7:6, the reserved bits 0 (10_state.md R48). -/
def faultInfoWord (cause : Cause) (arg comp : BitVec 2) : Word32 := (0 : BitVec 24) ++ comp ++ arg ++ cause.code

/-- FAULT_INFO.CAUSE (10_state.md R48). -/
def State.faultCause (s : State) : BitVec 4 := s.faultInfo.extractLsb' 0 4

/-- FAULT_INFO.ARG (10_state.md R48). -/
def State.faultArg (s : State) : BitVec 2 := s.faultInfo.extractLsb' 4 2

/-- FAULT_INFO.COMP (10_state.md R48). -/
def State.faultComp (s : State) : BitVec 2 := s.faultInfo.extractLsb' 6 2

/-- FAULT_VAL, the 64 bits of FAULT_VAL_HI and FAULT_VAL_LO (10_state.md R49). -/
def State.faultVal (s : State) : Word64 := s.faultValHi ++ s.faultValLo

end Sys2Proof.Machine
end

