-- ==== Sys2Proof/Machine/Operands.lean ====
section
/-! DEFINITION. The general registers and the operand forms: reading and writing a register, family-W operands
and results (00_scope.md R12; 10_state.md R31), groups (10_state.md R32) and the operand selectors
(44_vector.md R300). -/

namespace Sys2Proof.Machine

/-- `x[i]` (00_scope.md R12). -/
def State.readReg (s : State) (r : RegNum) : Word64 := s.regs[r.toNat]'r.isLt

/-- `x[i] <- v` (00_scope.md R12). -/
def State.writeReg (s : State) (r : RegNum) (v : Word64) : State :=
  { s with regs := s.regs.set r.toNat v r.isLt }

/-- The register of component i of the group from base r (10_state.md R32). -/
def comp (r : RegNum) (i : Nat) : RegNum := r + BitVec.ofNat 5 i

/-- `B(i) = (S = 1) ? RS2 : RS2 + i`, and likewise C(i) (44_vector.md R300). -/
def bcomp (sb : Bool) (r : RegNum) (i : Nat) : RegNum := if sb then r else comp r i

/-- Write consecutive registers from `rd` on. -/
def setGroup (regs : Vector Word64 32) (rd : RegNum) : List Word64 → Vector Word64 32
  | [] => regs
  | v :: vs => setGroup (regs.set rd.toNat v rd.isLt) (rd + 1) vs

/-- Phase 3 of a command: write every result register (44_vector.md R300). -/
def State.writeGroup (s : State) (rd : RegNum) (vs : List Word64) : State :=
  { s with regs := setGroup s.regs rd vs }

/-- `opnd_W(i) = sint_N(x[i][N-1:0])` (00_scope.md R12). -/
def opnd (w : Family) (s : State) (r : RegNum) : Int := ((s.readReg r).setWidth w.bits).toInt

/-- The n components of the family-W group from base r (10_state.md R32). -/
def opnds (w : Family) (s : State) (r : RegNum) (n : Nat) : List Int :=
  (List.range n).map fun i => opnd w s (comp r i)

/-- The pattern that `result_W` writes for v: `sext_64(bits_N(v))` (00_scope.md R12). -/
def result (w : Family) (v : Int) : Word64 := (BitVec.ofInt w.bits v).signExtend 64

end Sys2Proof.Machine
end

