-- ==== Sys2Proof/Machine/Ops.lean ====
section
/-! DEFINITION. The operations every command shares: the domain check (60_exceptions.md R343, R344), the loop over
components (44_vector.md R300), taking a fault and leaving the fault-held state (60_exceptions.md R345, R347,
R348), reset (70_reset_and_hazards.md R380), and running one command (60_exceptions.md R345). -/

namespace Sys2Proof.Machine

/-- What a DomainFault reports: ARG, COMP and the offending value (00_scope.md R14, 10_state.md R48, R49). -/
structure DomainError where
  arg  : BitVec 2
  comp : BitVec 2
  val  : Int
deriving DecidableEq, Repr

/-- `domain_check(true, arg, comp, val)`: under STRICT = 1 a DomainFault, under STRICT = 0 the enclosing
function returns 0 (00_scope.md R14; 60_exceptions.md R343, R344). `c` is the component index. -/
def domainCheck (b : Build) (arg : BitVec 2) (c : Nat) (val : Int) : Except DomainError Int :=
  if b.strict then .error ⟨arg, BitVec.ofNat 2 c, val⟩ else .ok 0

/-- Phase 2 of a componentwise command: components i, i+1, ... (k of them) in order; the first domain error
ends the command (44_vector.md R300; 60_exceptions.md R350). -/
def componentsFrom (f : Nat → Except DomainError Int) : Nat → Nat → Except DomainError (List Int)
  | _, 0 => .ok []
  | i, k + 1 =>
    match f i with
    | .error e => .error e
    | .ok v =>
      match componentsFrom f (i + 1) k with
      | .error e => .error e
      | .ok vs => .ok (v :: vs)

/-- The results of n components as the family-W patterns to write (44_vector.md R300). -/
def componentwise (w : Family) (n : Nat) (f : Nat → Except DomainError Int) : Except DomainError (List Word64) :=
  (componentsFrom f 0 n).map fun vs => vs.map (result w)

/-- One family-W result (00_scope.md R12). -/
def single (w : Family) (v : Except DomainError Int) : Except DomainError (List Word64) :=
  v.map fun x => [result w x]

/-- `enter_fault(c, cause, arg, comp, val)` (60_exceptions.md R345): the capture registers take the command
word, the cause and the value, and STATUS.FAULT is set. -/
def State.enterFault (s : State) (c : Word32) (cause : Cause) (arg comp : BitVec 2) (val : Int) : State :=
  { s with
    faultCmd   := c
    faultInfo  := faultInfoWord cause arg comp
    faultValLo := (BitVec.ofInt 64 val).extractLsb' 0 32
    faultValHi := (BitVec.ofInt 64 val).extractLsb' 32 32
    status     := s.status ||| 1 }

/-- A command word that arrives in the fault-held state: `STATUS.DISCARD <- 1`, nothing else
(60_exceptions.md R345, R347). -/
def State.discardCommand (s : State) : State := { s with status := s.status ||| 2 }

/-- CTRL.FAULT_CLR: `STATUS.FAULT <- 0` and `STATUS.DISCARD <- 0`; the capture registers keep their values
(10_state.md R44, 60_exceptions.md R348). -/
def State.clearFault (s : State) : State := { s with status := s.status &&& ~~~3 }

/-- Writing 1 to STATUS.DISCARD clears it (10_state.md R43). -/
def State.clearDiscard (s : State) : State := { s with status := s.status &&& ~~~2 }

/-- Reset (10_state.md R52, 70_reset_and_hazards.md R380): every register at its reset value; the build
constants, the ROM and the tables unchanged; the host's side of the port is not the unit's to reset. -/
def State.resetUnit (s : State) : State :=
  { State.reset with
    build := s.build, pending := s.pending, cmdidx := s.cmdidx, reads := s.reads, draws := s.draws }

/-- `CMDCNT <- (CMDCNT + 1) mod 2^32` (10_state.md R46). -/
def State.countCommand (s : State) : State := { s with cmdcnt := s.cmdcnt + 1 }

/-- One draw of FLTCVT_OOR was taken (assumption log 6). -/
def State.takeDraw (s : State) : State := { s with draws := s.draws + 1 }

/-- The rest of `on MemWrite(0x010, 4, c)` for a command i, when STATUS.FAULT = 0 (60_exceptions.md R345): `r`
is the outcome of phases 1 and 2. A term that is not a legal command takes IllegalCommand, a domain error
takes DomainFault and writes no register, and otherwise the results are written from `rd` on and CMDCNT
counts the command. FAULT_CMD is the command's word (assumption log 7). -/
def runCommand (i : Instr) (rd : RegNum) (r : Except DomainError (List Word64)) (s : State) :
    Host.Outcome State Fault Refusal :=
  if i.wellFormed then
    match r with
    | .ok vs => .next (s.writeGroup rd vs).countCommand
    | .error e => .next (s.enterFault (encode i) .domainFault e.arg e.comp e.val)
  else .next (s.enterFault (encode i) .illegalCommand 0 0 0)

end Sys2Proof.Machine
end

