-- ==== Sys2Proof/Machine/Rom.lean ====
section
/-! DEFINITION. The constant ROM (10_state.md R35, R36). -/

namespace Sys2Proof.Machine

/-- Entries 4 to 9 and 13 of one family of the constant ROM, read as integers (10_state.md R36). -/
def romParam {n : Nat} (v : RomValues n) : Nat → Int
  | 4 => v.pi.toInt
  | 5 => v.piHalf.toInt
  | 6 => v.twoPi.toInt
  | 7 => v.ln2.toInt
  | 8 => v.invLn2.toInt
  | 9 => v.sqrt2.toInt
  | 13 => v.e.toInt
  | _ => 0

/-- The parameters that family W reads: its own, but for W = 1 with FRAC64 = 16 the family-32 values, sign
extended (10_state.md R36). -/
def romParamOf (b : Build) (w : Family) (k : Nat) : Int :=
  match w, b.frac64 with
  | .q16, _ => romParam b.rom32 k
  | .q32, .f32 => romParam b.rom64 k
  | .q32, .f16 => romParam b.rom32 k

/-- `K[W][k]` (10_state.md R36): entries 0 to 3 and 10 to 12 exact by definition, 14 and 15 zero, the rest
the unit's parameters. -/
def romEntry (b : Build) (w : Family) (k : Nat) : Int :=
  match k with
  | 0 => 0
  | 1 => oneRaw b w
  | 2 => 2 ^ (fracBits b w - 1)
  | 3 => -oneRaw b w
  | 10 => maxRaw w
  | 11 => minRaw w
  | 12 => 1
  | k => romParamOf b w k

/-- `K[W].PI`. -/
def romPi (b : Build) (w : Family) : Int := romEntry b w 4
/-- `K[W].PI_HALF`. -/
def romPiHalf (b : Build) (w : Family) : Int := romEntry b w 5
/-- `K[W].TWO_PI`. -/
def romTwoPi (b : Build) (w : Family) : Int := romEntry b w 6
/-- `K[W].LN2`. -/
def romLn2 (b : Build) (w : Family) : Int := romEntry b w 7
/-- `K[W].INV_LN2`. -/
def romInvLn2 (b : Build) (w : Family) : Int := romEntry b w 8

end Sys2Proof.Machine
end

