-- ==== Sys2Proof/Machine/Conversion.lean ====
section
/-! DEFINITION. Data movement and conversion (40_conversion.md): NOP, MOV, CONST, WIDEN, NARROW, FROMINT, FLOOR,
CEIL, ROUND, FROMF, FROMD, TOF, TOD. -/

namespace Sys2Proof.Machine

/-- NOP: no effect but that the command completes (R130). -/
def execNop (s : State) : Host.Outcome State Fault Refusal := runCommand .nop 0 (.ok []) s

/-- MOV: `v[i] = opnd_W(RS1 + i)` (R131). -/
def execMov (w : Family) (vl : VLen) (rd rs1 : RegNum) (s : State) : Host.Outcome State Fault Refusal :=
  runCommand (.mov w vl rd rs1) rd (componentwise w vl.count fun i => .ok (opnd w s (comp rs1 i))) s

/-- CONST: `result_W(RD, K[W][k])` (R132). -/
def execConst (w : Family) (rd k : RegNum) (s : State) : Host.Outcome State Fault Refusal :=
  runCommand (.const w rd k) rd (single w (.ok (romEntry s.build w k.toNat))) s

/-- The value WIDEN gives for a family-32 raw value: `wrap_64(shl(a, FRAC64 - 16))` (R133). -/
def widenRaw (b : Build) (a : Int) : Int := wrap 64 (shl a (b.frac64.bits - 16))

/-- The value NARROW gives for a family-64 raw value: `wrap_32(asr(a, FRAC64 - 16))` (R134). -/
def narrowRaw (b : Build) (a : Int) : Int := wrap 32 (asr a (b.frac64.bits - 16))

/-- WIDEN: family 32 to family 64 (R133). -/
def execWiden (vl : VLen) (rd rs1 : RegNum) (s : State) : Host.Outcome State Fault Refusal :=
  runCommand (.widen vl rd rs1) rd
    (componentwise .q32 vl.count fun i => .ok (widenRaw s.build (opnd .q16 s (comp rs1 i)))) s

/-- NARROW: family 64 to family 32, reading all 64 bits of each source (R134; assumption log 14). -/
def execNarrow (vl : VLen) (rd rs1 : RegNum) (s : State) : Host.Outcome State Fault Refusal :=
  runCommand (.narrow vl rd rs1) rd
    (componentwise .q16 vl.count fun i => .ok (narrowRaw s.build (opnd .q32 s (comp rs1 i)))) s

/-- FROMINT: `wrap_N(shl(i, F))` (R135). -/
def execFromint (w : Family) (rd rs1 : RegNum) (s : State) : Host.Outcome State Fault Refusal :=
  runCommand (.fromint w rd rs1) rd (single w (.ok (wrap w.bits (shl (opnd w s rs1) (fracBits s.build w))))) s

/-- FLOOR: `asr(a, F)` (R136). -/
def execFloor (w : Family) (rd rs1 : RegNum) (s : State) : Host.Outcome State Fault Refusal :=
  runCommand (.floor w rd rs1) rd (single w (.ok (asr (opnd w s rs1) (fracBits s.build w)))) s

/-- CEIL: `asr(wrap_N(a + ONE_W - 1), F)` (R137). -/
def execCeil (w : Family) (rd rs1 : RegNum) (s : State) : Host.Outcome State Fault Refusal :=
  runCommand (.ceil w rd rs1) rd
    (single w (.ok (asr (wrap w.bits (opnd w s rs1 + oneRaw s.build w - 1)) (fracBits s.build w)))) s

/-- ROUND: `asr(wrap_N(a + 2^(F-1)), F)` (R138). -/
def execRound (w : Family) (rd rs1 : RegNum) (s : State) : Host.Outcome State Fault Refusal :=
  runCommand (.round w rd rs1) rd
    (single w (.ok (asr (wrap w.bits (opnd w s rs1 + 2 ^ (fracBits s.build w - 1))) (fracBits s.build w)))) s

/-- `f = binary32_value(x[RS1][31:0])`, scaled by 2^F and truncated; none if not finite (R140). -/
def floatOperand (w : Family) (s : State) (r : RegNum) : Option Int :=
  floatToFixed 8 23 (fracBits s.build w) (((s.readReg r).extractLsb' 0 32).toNat)

/-- `d = binary64_value(x[RS1][63:0])`, scaled by 2^F and truncated, whatever W is; none if not finite (R141;
assumption log 14). -/
def doubleOperand (w : Family) (s : State) (r : RegNum) : Option Int :=
  floatToFixed 11 52 (fracBits s.build w) (s.readReg r).toNat

/-- The state in which a float conversion's command runs: an out-of-range conversion takes a draw
(R140; assumption log 6). -/
def State.forConversion (s : State) (w : Family) (v : Option Int) : State :=
  if fixedInRange w v then s else s.takeDraw

/-- FROMF: truncation toward zero; out of range the draw FLTCVT_OOR (R140). -/
def execFromf (w : Family) (rd rs1 : RegNum) (s : State) : Host.Outcome State Fault Refusal :=
  runCommand (.fromf w rd rs1) rd (single w (.ok (fromFloatResult w s.draws (floatOperand w s rs1))))
    (s.forConversion w (floatOperand w s rs1))

/-- FROMD: the same from a binary64 (R141). -/
def execFromd (w : Family) (rd rs1 : RegNum) (s : State) : Host.Outcome State Fault Refusal :=
  runCommand (.fromd w rd rs1) rd (single w (.ok (fromFloatResult w s.draws (doubleOperand w s rs1))))
    (s.forConversion w (doubleOperand w s rs1))

/-- TOF: the nearest binary32 of a / 2^F, zero-extended (R142). -/
def execTof (w : Family) (rd rs1 : RegNum) (s : State) : Host.Outcome State Fault Refusal :=
  runCommand (.tof w rd rs1) rd
    (.ok [(BitVec.ofNat 32 (fixedToFloat 8 23 (fracBits s.build w) (opnd w s rs1))).setWidth 64]) s

/-- TOD: the nearest binary64 of a / 2^F (R143). -/
def execTod (w : Family) (rd rs1 : RegNum) (s : State) : Host.Outcome State Fault Refusal :=
  runCommand (.tod w rd rs1) rd
    (.ok [BitVec.ofNat 64 (fixedToFloat 11 52 (fracBits s.build w) (opnd w s rs1))]) s

end Sys2Proof.Machine
end

