-- ==== Sys2Proof/Machine/Tables.lean ====
section
/-! DEFINITION. The configuration functions `Cfg.<Fn>[W][t]` on raw integers (10_state.md R37), read from the
opaque tables of Config. Two properties are required of every conforming unit and hold here by construction:
SIN-ODD (43_transcendental.md R285) and ATAN2-AXIS (R287). Nothing else is assumed (assumption log 4, 5). -/

namespace Sys2Proof.Machine

/-- The table argument that stands for the raw integer v. -/
def tableArg (w : Family) (v : Int) : BitVec w.bits := BitVec.ofInt w.bits v

/-- `Cfg.DivPos[W][t](a, b)`. -/
def cfgDivPos (b : Build) (w : Family) (t : Tier) (x y : Int) : Int :=
  (Config.divPos b w t (tableArg w x) (tableArg w y)).toInt

/-- `Cfg.RcpPos[W][t](a)`. -/
def cfgRcpPos (b : Build) (w : Family) (t : Tier) (a : Int) : Int := (Config.rcpPos b w t (tableArg w a)).toInt

/-- `Cfg.SqrtPos[W][t](a)`. -/
def cfgSqrtPos (b : Build) (w : Family) (t : Tier) (a : Int) : Int := (Config.sqrtPos b w t (tableArg w a)).toInt

/-- `Cfg.RsqrtPos[W][t](a)`. -/
def cfgRsqrtPos (b : Build) (w : Family) (t : Tier) (a : Int) : Int := (Config.rsqrtPos b w t (tableArg w a)).toInt

/-- `Cfg.Exp2[W][t](a)`. -/
def cfgExp2 (b : Build) (w : Family) (t : Tier) (a : Int) : Int := (Config.exp2 b w t (tableArg w a)).toInt

/-- `Cfg.Log2Pos[W][t](a)`. -/
def cfgLog2Pos (b : Build) (w : Family) (t : Tier) (a : Int) : Int := (Config.log2Pos b w t (tableArg w a)).toInt

/-- `Cfg.Sin[W][t](a)`, with SIN-ODD: 0 at 0, and for a negative argument other than MIN_N the wrapped
negation of the value at the positive one (43_transcendental.md R260, R285). -/
def cfgSin (b : Build) (w : Family) (t : Tier) (a : Int) : Int :=
  if a = 0 then 0
  else if a < 0 ∧ a ≠ minRaw w then negW w (Config.sinTable b w t (tableArg w (-a))).toInt
  else (Config.sinTable b w t (tableArg w a)).toInt

/-- `Cfg.Tan[W][t](a)`. -/
def cfgTan (b : Build) (w : Family) (t : Tier) (a : Int) : Int := (Config.tan b w t (tableArg w a)).toInt

/-- `Cfg.Atan2[W][t](y, x)`, with the four axis cases of ATAN2-AXIS (43_transcendental.md R272, R287). -/
def cfgAtan2 (b : Build) (w : Family) (t : Tier) (y x : Int) : Int :=
  if y = 0 ∧ x = oneRaw b w then 0
  else if y = oneRaw b w ∧ x = 0 then romPiHalf b w
  else if y = 0 ∧ x = -oneRaw b w then romPi b w
  else if y = -oneRaw b w ∧ x = 0 then negW w (romPiHalf b w)
  else (Config.atan2Table b w t (tableArg w y) (tableArg w x)).toInt

end Sys2Proof.Machine
end

