-- ==== Sys2Proof/Machine/Root.lean ====
section
/-! DEFINITION. Reciprocal and square root (42_sqrt_rcp.md): SQRT in four tiers, RSQRT and RCP in three. -/

namespace Sys2Proof.Machine

/-- The digit-by-digit root: from the bit 2^(k-1) down, a bit is kept when the square still fits
(R210; assumption log 15). -/
def isqrtLoop : Nat → Nat → Nat → Nat
  | 0, _, r => r
  | k + 1, m, r => if (r + 2 ^ k) * (r + 2 ^ k) ≤ m then isqrtLoop k m (r + 2 ^ k) else isqrtLoop k m r

/-- `isqrt(m) = floor(sqrt(m))` for the radicands of the unit, which are below 2^96 (R210). -/
def isqrt (m : Nat) : Nat := isqrtLoop 48 m 0

/-- `SqrtPrecise_W(a)`: a domain error for a < 0, else `isqrt(shl(a, F))` (R210). -/
def sqrtPreciseRaw (b : Build) (w : Family) (a : Int) : Except DomainError Int :=
  if a < 0 then domainCheck b 1 0 a else .ok (isqrt (shl a (fracBits b w)).toNat)

/-- `SqrtApprox_t`: a domain error for a < 0, 0 for 0, else the unit's table (R211). -/
def sqrtApprox (b : Build) (w : Family) (t : Tier) (a : Int) : Except DomainError Int :=
  if a < 0 then domainCheck b 1 0 a
  else if a = 0 then .ok 0
  else .ok (cfgSqrtPos b w t a)

/-- `RsqrtApprox_t`: a domain error for a <= 0, else the unit's table (R215). `arg` is the operand index that
is reported: 1 for RSQRT, 0 inside a normalisation (44_vector.md R313). -/
def rsqrtApprox (b : Build) (w : Family) (t : Tier) (arg : BitVec 2) (a : Int) : Except DomainError Int :=
  if a ≤ 0 then domainCheck b arg 0 a else .ok (cfgRsqrtPos b w t a)

/-- `RcpApprox_t`: a domain error for a = 0 or MIN_N; the sign is exact, the rest is the unit's table (R219). -/
def rcpApprox (b : Build) (w : Family) (t : Tier) (a : Int) : Except DomainError Int :=
  if a = 0 ∨ a = minRaw w then domainCheck b 1 0 a
  else if 0 < a then .ok (cfgRcpPos b w t a)
  else .ok (negW w (cfgRcpPos b w t (-a)))

/-- SQRT.PRECISE: the floor of the exact root (R210). -/
def execSqrtPrecise (w : Family) (rd rs1 : RegNum) (s : State) : Host.Outcome State Fault Refusal :=
  runCommand (.sqrtPrecise w rd rs1) rd (single w (sqrtPreciseRaw s.build w (opnd w s rs1))) s

/-- SQRT: SqrtApprox_0 (R212). -/
def execSqrt (w : Family) (rd rs1 : RegNum) (s : State) : Host.Outcome State Fault Refusal :=
  runCommand (.sqrt w rd rs1) rd (single w (sqrtApprox s.build w .base (opnd w s rs1))) s

/-- SQRT.FAST: SqrtApprox_1 (R213). -/
def execSqrtFast (w : Family) (rd rs1 : RegNum) (s : State) : Host.Outcome State Fault Refusal :=
  runCommand (.sqrtFast w rd rs1) rd (single w (sqrtApprox s.build w .fast (opnd w s rs1))) s

/-- SQRT.FASTEST: SqrtApprox_2 (R214). -/
def execSqrtFastest (w : Family) (rd rs1 : RegNum) (s : State) : Host.Outcome State Fault Refusal :=
  runCommand (.sqrtFastest w rd rs1) rd (single w (sqrtApprox s.build w .fastest (opnd w s rs1))) s

/-- RSQRT: RsqrtApprox_0 (R216). -/
def execRsqrt (w : Family) (rd rs1 : RegNum) (s : State) : Host.Outcome State Fault Refusal :=
  runCommand (.rsqrt w rd rs1) rd (single w (rsqrtApprox s.build w .base 1 (opnd w s rs1))) s

/-- RSQRT.FAST: RsqrtApprox_1 (R217). -/
def execRsqrtFast (w : Family) (rd rs1 : RegNum) (s : State) : Host.Outcome State Fault Refusal :=
  runCommand (.rsqrtFast w rd rs1) rd (single w (rsqrtApprox s.build w .fast 1 (opnd w s rs1))) s

/-- RSQRT.FASTEST: RsqrtApprox_2 (R218). -/
def execRsqrtFastest (w : Family) (rd rs1 : RegNum) (s : State) : Host.Outcome State Fault Refusal :=
  runCommand (.rsqrtFastest w rd rs1) rd (single w (rsqrtApprox s.build w .fastest 1 (opnd w s rs1))) s

/-- RCP: RcpApprox_0 (R220). -/
def execRcp (w : Family) (rd rs1 : RegNum) (s : State) : Host.Outcome State Fault Refusal :=
  runCommand (.rcp w rd rs1) rd (single w (rcpApprox s.build w .base (opnd w s rs1))) s

/-- RCP.FAST: RcpApprox_1 (R221). -/
def execRcpFast (w : Family) (rd rs1 : RegNum) (s : State) : Host.Outcome State Fault Refusal :=
  runCommand (.rcpFast w rd rs1) rd (single w (rcpApprox s.build w .fast (opnd w s rs1))) s

/-- RCP.FASTEST: RcpApprox_2 (R222). -/
def execRcpFastest (w : Family) (rd rs1 : RegNum) (s : State) : Host.Outcome State Fault Refusal :=
  runCommand (.rcpFastest w rd rs1) rd (single w (rcpApprox s.build w .fastest (opnd w s rs1))) s

end Sys2Proof.Machine
end

