-- ==== Sys2Proof/Machine/ScalarArith.lean ====
section
/-! DEFINITION. Scalar arithmetic and ordering (41_scalar_arith.md): ADD, SUB, MUL, the four DIV tiers, MOD, NEG,
ABS, CMP, MIN, MAX, RATIO. The componentwise commands run the loop of 44_vector.md R300. -/

namespace Sys2Proof.Machine

/-- DivPrecise for component i: a domain error for b = 0 or MIN_N, else `wrap_N(trunc(shl(a, F) / b))` (R173). -/
def divPreciseRaw (b : Build) (w : Family) (i : Nat) (x y : Int) : Except DomainError Int :=
  if y = 0 ∨ y = minRaw w then domainCheck b 2 i y
  else .ok (wrap w.bits (truncDiv (shl x (fracBits b w)) y))

/-- `DivApprox_t` for component i: the sign of the denominator is exact, the rest is the unit's table (R174). -/
def divApprox (b : Build) (w : Family) (t : Tier) (i : Nat) (x y : Int) : Except DomainError Int :=
  if y = 0 ∨ y = minRaw w then domainCheck b 2 i y
  else if 0 < y then .ok (cfgDivPos b w t x y)
  else .ok (negW w (cfgDivPos b w t x (-y)))

/-- MOD for component i: a domain error for b = 0, else `a - b * trunc(a / b)` (R178). -/
def modRaw (b : Build) (i : Nat) (x y : Int) : Except DomainError Int :=
  if y = 0 then domainCheck b 2 i y else .ok (x - y * truncDiv x y)

/-- ABS: `(a < 0) ? wrap_N(-a) : a` (R180). -/
def absRaw (w : Family) (x : Int) : Int := if x < 0 then negW w x else x

/-- CMP: the integer -1, 0 or 1 (R181). -/
def cmpRaw (x y : Int) : Int := if x < y then -1 else if x = y then 0 else 1

/-- MIN: `(a <= b) ? a : b` (R182). -/
def minOf (x y : Int) : Int := if x ≤ y then x else y

/-- MAX: `(a >= b) ? a : b` (R183). -/
def maxOf (x y : Int) : Int := if x ≥ y then x else y

/-- RATIO of integers: a domain error for q = 0, else `wrap_N(trunc(shl(p, F) / q))` (R184). -/
def ratioRaw (b : Build) (w : Family) (p q : Int) : Except DomainError Int :=
  if q = 0 then domainCheck b 2 0 q else .ok (wrap w.bits (truncDiv (shl p (fracBits b w)) q))

/-- ADD: `wrap_N(a + b)` in each component (R170). -/
def execAdd (w : Family) (vl : VLen) (sb : Bool) (rd rs1 rs2 : RegNum) (s : State) : Host.Outcome State Fault Refusal :=
  runCommand (.add w vl sb rd rs1 rs2) rd
    (componentwise w vl.count fun i => .ok (addW w (opnd w s (comp rs1 i)) (opnd w s (bcomp sb rs2 i)))) s

/-- SUB: `wrap_N(a - b)` in each component (R171). -/
def execSub (w : Family) (vl : VLen) (sb : Bool) (rd rs1 rs2 : RegNum) (s : State) : Host.Outcome State Fault Refusal :=
  runCommand (.sub w vl sb rd rs1 rs2) rd
    (componentwise w vl.count fun i => .ok (subW w (opnd w s (comp rs1 i)) (opnd w s (bcomp sb rs2 i)))) s

/-- MUL: `wrap_N(asr(a * b, F))` in each component (R172). -/
def execMul (w : Family) (vl : VLen) (sb : Bool) (rd rs1 rs2 : RegNum) (s : State) : Host.Outcome State Fault Refusal :=
  runCommand (.mul w vl sb rd rs1 rs2) rd
    (componentwise w vl.count fun i => .ok (mulW s.build w (opnd w s (comp rs1 i)) (opnd w s (bcomp sb rs2 i)))) s

/-- DIV: DivApprox_0 in each component (R175). -/
def execDiv (w : Family) (vl : VLen) (sb : Bool) (rd rs1 rs2 : RegNum) (s : State) : Host.Outcome State Fault Refusal :=
  runCommand (.div w vl sb rd rs1 rs2) rd
    (componentwise w vl.count fun i => divApprox s.build w .base i (opnd w s (comp rs1 i)) (opnd w s (bcomp sb rs2 i))) s

/-- DIV.FAST: DivApprox_1 in each component (R176). -/
def execDivFast (w : Family) (vl : VLen) (sb : Bool) (rd rs1 rs2 : RegNum) (s : State) : Host.Outcome State Fault Refusal :=
  runCommand (.divFast w vl sb rd rs1 rs2) rd
    (componentwise w vl.count fun i => divApprox s.build w .fast i (opnd w s (comp rs1 i)) (opnd w s (bcomp sb rs2 i))) s

/-- DIV.FASTEST: DivApprox_2 in each component (R177). -/
def execDivFastest (w : Family) (vl : VLen) (sb : Bool) (rd rs1 rs2 : RegNum) (s : State) : Host.Outcome State Fault Refusal :=
  runCommand (.divFastest w vl sb rd rs1 rs2) rd
    (componentwise w vl.count fun i => divApprox s.build w .fastest i (opnd w s (comp rs1 i)) (opnd w s (bcomp sb rs2 i))) s

/-- DIV.PRECISE: the exact quotient, rounded toward zero, in each component (R173). -/
def execDivPrecise (w : Family) (vl : VLen) (sb : Bool) (rd rs1 rs2 : RegNum) (s : State) : Host.Outcome State Fault Refusal :=
  runCommand (.divPrecise w vl sb rd rs1 rs2) rd
    (componentwise w vl.count fun i => divPreciseRaw s.build w i (opnd w s (comp rs1 i)) (opnd w s (bcomp sb rs2 i))) s

/-- MOD: the truncated remainder in each component (R178). -/
def execMod (w : Family) (vl : VLen) (sb : Bool) (rd rs1 rs2 : RegNum) (s : State) : Host.Outcome State Fault Refusal :=
  runCommand (.mod w vl sb rd rs1 rs2) rd
    (componentwise w vl.count fun i => modRaw s.build i (opnd w s (comp rs1 i)) (opnd w s (bcomp sb rs2 i))) s

/-- NEG: `wrap_N(-a)` (R179). -/
def execNeg (w : Family) (rd rs1 : RegNum) (s : State) : Host.Outcome State Fault Refusal :=
  runCommand (.neg w rd rs1) rd (single w (.ok (negW w (opnd w s rs1)))) s

/-- ABS: the absolute value, MIN_N wrapping to itself (R180). -/
def execAbs (w : Family) (rd rs1 : RegNum) (s : State) : Host.Outcome State Fault Refusal :=
  runCommand (.abs w rd rs1) rd (single w (.ok (absRaw w (opnd w s rs1)))) s

/-- CMP: the signed order of the raw values (R181). -/
def execCmp (w : Family) (rd rs1 rs2 : RegNum) (s : State) : Host.Outcome State Fault Refusal :=
  runCommand (.cmp w rd rs1 rs2) rd (single w (.ok (cmpRaw (opnd w s rs1) (opnd w s rs2)))) s

/-- MIN: the smaller operand in the signed order (R182). -/
def execMin (w : Family) (rd rs1 rs2 : RegNum) (s : State) : Host.Outcome State Fault Refusal :=
  runCommand (.min w rd rs1 rs2) rd (single w (.ok (minOf (opnd w s rs1) (opnd w s rs2)))) s

/-- MAX: the larger operand in the signed order (R183). -/
def execMax (w : Family) (rd rs1 rs2 : RegNum) (s : State) : Host.Outcome State Fault Refusal :=
  runCommand (.max w rd rs1 rs2) rd (single w (.ok (maxOf (opnd w s rs1) (opnd w s rs2)))) s

/-- RATIO: the quotient of two integers as a fixed-point value (R184). -/
def execRatio (w : Family) (rd rs1 rs2 : RegNum) (s : State) : Host.Outcome State Fault Refusal :=
  runCommand (.ratio w rd rs1 rs2) rd (single w (ratioRaw s.build w (opnd w s rs1) (opnd w s rs2))) s

end Sys2Proof.Machine
end

