-- ==== Sys2Proof/Machine/Transcendental.lean ====
section
/-! DEFINITION. Transcendentals (43_transcendental.md): EXP2, LOG2, EXP, LOG, POW, SIN, COS, TAN, ATAN2, ASIN, ACOS,
each in three tiers. -/

namespace Sys2Proof.Machine

/-- `Exp2_t`: total (R240). -/
def exp2Approx (b : Build) (w : Family) (t : Tier) (a : Int) : Int := cfgExp2 b w t a

/-- `Log2_t`: a domain error for a <= 0 (R244). -/
def log2Approx (b : Build) (w : Family) (t : Tier) (a : Int) : Except DomainError Int :=
  if a ≤ 0 then domainCheck b 1 0 a else .ok (cfgLog2Pos b w t a)

/-- `Exp_t(a) = Exp2_t(MUL_W(a, K[W].INV_LN2))` (R248). -/
def expApprox (b : Build) (w : Family) (t : Tier) (a : Int) : Int := exp2Approx b w t (mulW b w a (romInvLn2 b w))

/-- `Log_t`: a domain error for a <= 0, else `MUL_W(Log2Pos(a), K[W].LN2)` (R252). -/
def logApprox (b : Build) (w : Family) (t : Tier) (a : Int) : Except DomainError Int :=
  if a ≤ 0 then domainCheck b 1 0 a else .ok (mulW b w (cfgLog2Pos b w t a) (romLn2 b w))

/-- `Pow_t(x, e)`: a domain error for x <= 0, else `Exp_t(MUL_W(e, Log_t(x)))` (R256). -/
def powApprox (b : Build) (w : Family) (t : Tier) (x e : Int) : Except DomainError Int :=
  if x ≤ 0 then domainCheck b 1 0 x
  else (logApprox b w t x).map fun l => expApprox b w t (mulW b w e l)

/-- `Sin_t`: total (R260). -/
def sinApprox (b : Build) (w : Family) (t : Tier) (a : Int) : Int := cfgSin b w t a

/-- `Cos_t(a) = Sin_t(ADD_W(a, K[W].PI_HALF))` (R264). -/
def cosApprox (b : Build) (w : Family) (t : Tier) (a : Int) : Int := sinApprox b w t (addW w a (romPiHalf b w))

/-- `Tan_t`: total (R268). -/
def tanApprox (b : Build) (w : Family) (t : Tier) (a : Int) : Int := cfgTan b w t a

/-- `Atan2_t(y, x)`: total (R272). -/
def atan2Approx (b : Build) (w : Family) (t : Tier) (y x : Int) : Int := cfgAtan2 b w t y x

/-- The family-64 operand of ASIN and ACOS: family 32 is widened (R276, R280). -/
def wideOperand (b : Build) (w : Family) (a : Int) : Int :=
  match w with
  | .q16 => shl a (b.frac64.bits - 16)
  | .q32 => a

/-- The result of ASIN and ACOS: family 32 is narrowed (R276, R280). -/
def narrowResult (b : Build) (w : Family) (r : Int) : Int :=
  match w with
  | .q16 => narrowRaw b r
  | .q32 => r

/-- `m = MUL_1(ONE_1 + x, ONE_1 - x)` (R276, R280). -/
def oneMinusSquare (b : Build) (x : Int) : Int := mulW b .q32 (oneRaw b .q32 + x) (oneRaw b .q32 - x)

/-- The operand is outside the domain of ASIN and ACOS: `|a| > ONE_W` (R276, R280). -/
def outsideUnit (b : Build) (w : Family) (a : Int) : Bool := decide (oneRaw b w < a) || decide (a < -oneRaw b w)

/-- `Asin_t`: a domain error for |a| > ONE_W, else Atan2_t(x, s) in family 64, narrowed for family 32 (R276). -/
def asinApprox (b : Build) (w : Family) (t : Tier) (a : Int) : Except DomainError Int :=
  if outsideUnit b w a then domainCheck b 1 0 a
  else (sqrtApprox b .q32 t (oneMinusSquare b (wideOperand b w a))).map fun r =>
    narrowResult b w (atan2Approx b .q32 t (wideOperand b w a) r)

/-- `Acos_t`: the same with the arguments of Atan2 swapped (R280). -/
def acosApprox (b : Build) (w : Family) (t : Tier) (a : Int) : Except DomainError Int :=
  if outsideUnit b w a then domainCheck b 1 0 a
  else (sqrtApprox b .q32 t (oneMinusSquare b (wideOperand b w a))).map fun r =>
    narrowResult b w (atan2Approx b .q32 t r (wideOperand b w a))

/-- EXP2: Exp2_0 (R241). -/
def execExp2 (w : Family) (rd rs1 : RegNum) (s : State) : Host.Outcome State Fault Refusal :=
  runCommand (.exp2 w rd rs1) rd (single w (.ok (exp2Approx s.build w .base (opnd w s rs1)))) s

/-- EXP2.FAST: Exp2_1 (R242). -/
def execExp2Fast (w : Family) (rd rs1 : RegNum) (s : State) : Host.Outcome State Fault Refusal :=
  runCommand (.exp2Fast w rd rs1) rd (single w (.ok (exp2Approx s.build w .fast (opnd w s rs1)))) s

/-- EXP2.FASTEST: Exp2_2 (R243). -/
def execExp2Fastest (w : Family) (rd rs1 : RegNum) (s : State) : Host.Outcome State Fault Refusal :=
  runCommand (.exp2Fastest w rd rs1) rd (single w (.ok (exp2Approx s.build w .fastest (opnd w s rs1)))) s

/-- LOG2: Log2_0 (R245). -/
def execLog2 (w : Family) (rd rs1 : RegNum) (s : State) : Host.Outcome State Fault Refusal :=
  runCommand (.log2 w rd rs1) rd (single w (log2Approx s.build w .base (opnd w s rs1))) s

/-- LOG2.FAST: Log2_1 (R246). -/
def execLog2Fast (w : Family) (rd rs1 : RegNum) (s : State) : Host.Outcome State Fault Refusal :=
  runCommand (.log2Fast w rd rs1) rd (single w (log2Approx s.build w .fast (opnd w s rs1))) s

/-- LOG2.FASTEST: Log2_2 (R247). -/
def execLog2Fastest (w : Family) (rd rs1 : RegNum) (s : State) : Host.Outcome State Fault Refusal :=
  runCommand (.log2Fastest w rd rs1) rd (single w (log2Approx s.build w .fastest (opnd w s rs1))) s

/-- EXP: Exp_0 (R249). -/
def execExp (w : Family) (rd rs1 : RegNum) (s : State) : Host.Outcome State Fault Refusal :=
  runCommand (.exp w rd rs1) rd (single w (.ok (expApprox s.build w .base (opnd w s rs1)))) s

/-- EXP.FAST: Exp_1 (R250). -/
def execExpFast (w : Family) (rd rs1 : RegNum) (s : State) : Host.Outcome State Fault Refusal :=
  runCommand (.expFast w rd rs1) rd (single w (.ok (expApprox s.build w .fast (opnd w s rs1)))) s

/-- EXP.FASTEST: Exp_2 (R251). -/
def execExpFastest (w : Family) (rd rs1 : RegNum) (s : State) : Host.Outcome State Fault Refusal :=
  runCommand (.expFastest w rd rs1) rd (single w (.ok (expApprox s.build w .fastest (opnd w s rs1)))) s

/-- LOG: Log_0 (R253). -/
def execLog (w : Family) (rd rs1 : RegNum) (s : State) : Host.Outcome State Fault Refusal :=
  runCommand (.log w rd rs1) rd (single w (logApprox s.build w .base (opnd w s rs1))) s

/-- LOG.FAST: Log_1 (R254). -/
def execLogFast (w : Family) (rd rs1 : RegNum) (s : State) : Host.Outcome State Fault Refusal :=
  runCommand (.logFast w rd rs1) rd (single w (logApprox s.build w .fast (opnd w s rs1))) s

/-- LOG.FASTEST: Log_2 (R255). -/
def execLogFastest (w : Family) (rd rs1 : RegNum) (s : State) : Host.Outcome State Fault Refusal :=
  runCommand (.logFastest w rd rs1) rd (single w (logApprox s.build w .fastest (opnd w s rs1))) s

/-- POW: x from RS1 and e from RS2, Pow_0 (R257). -/
def execPow (w : Family) (rd rs1 rs2 : RegNum) (s : State) : Host.Outcome State Fault Refusal :=
  runCommand (.pow w rd rs1 rs2) rd (single w (powApprox s.build w .base (opnd w s rs1) (opnd w s rs2))) s

/-- POW.FAST: x from RS1 and e from RS2, Pow_1 (R258). -/
def execPowFast (w : Family) (rd rs1 rs2 : RegNum) (s : State) : Host.Outcome State Fault Refusal :=
  runCommand (.powFast w rd rs1 rs2) rd (single w (powApprox s.build w .fast (opnd w s rs1) (opnd w s rs2))) s

/-- POW.FASTEST: x from RS1 and e from RS2, Pow_2 (R259). -/
def execPowFastest (w : Family) (rd rs1 rs2 : RegNum) (s : State) : Host.Outcome State Fault Refusal :=
  runCommand (.powFastest w rd rs1 rs2) rd (single w (powApprox s.build w .fastest (opnd w s rs1) (opnd w s rs2))) s

/-- SIN: Sin_0 (R261). -/
def execSin (w : Family) (rd rs1 : RegNum) (s : State) : Host.Outcome State Fault Refusal :=
  runCommand (.sin w rd rs1) rd (single w (.ok (sinApprox s.build w .base (opnd w s rs1)))) s

/-- SIN.FAST: Sin_1 (R262). -/
def execSinFast (w : Family) (rd rs1 : RegNum) (s : State) : Host.Outcome State Fault Refusal :=
  runCommand (.sinFast w rd rs1) rd (single w (.ok (sinApprox s.build w .fast (opnd w s rs1)))) s

/-- SIN.FASTEST: Sin_2 (R263). -/
def execSinFastest (w : Family) (rd rs1 : RegNum) (s : State) : Host.Outcome State Fault Refusal :=
  runCommand (.sinFastest w rd rs1) rd (single w (.ok (sinApprox s.build w .fastest (opnd w s rs1)))) s

/-- COS: Cos_0 (R265). -/
def execCos (w : Family) (rd rs1 : RegNum) (s : State) : Host.Outcome State Fault Refusal :=
  runCommand (.cos w rd rs1) rd (single w (.ok (cosApprox s.build w .base (opnd w s rs1)))) s

/-- COS.FAST: Cos_1 (R266). -/
def execCosFast (w : Family) (rd rs1 : RegNum) (s : State) : Host.Outcome State Fault Refusal :=
  runCommand (.cosFast w rd rs1) rd (single w (.ok (cosApprox s.build w .fast (opnd w s rs1)))) s

/-- COS.FASTEST: Cos_2 (R267). -/
def execCosFastest (w : Family) (rd rs1 : RegNum) (s : State) : Host.Outcome State Fault Refusal :=
  runCommand (.cosFastest w rd rs1) rd (single w (.ok (cosApprox s.build w .fastest (opnd w s rs1)))) s

/-- TAN: Tan_0 (R269). -/
def execTan (w : Family) (rd rs1 : RegNum) (s : State) : Host.Outcome State Fault Refusal :=
  runCommand (.tan w rd rs1) rd (single w (.ok (tanApprox s.build w .base (opnd w s rs1)))) s

/-- TAN.FAST: Tan_1 (R270). -/
def execTanFast (w : Family) (rd rs1 : RegNum) (s : State) : Host.Outcome State Fault Refusal :=
  runCommand (.tanFast w rd rs1) rd (single w (.ok (tanApprox s.build w .fast (opnd w s rs1)))) s

/-- TAN.FASTEST: Tan_2 (R271). -/
def execTanFastest (w : Family) (rd rs1 : RegNum) (s : State) : Host.Outcome State Fault Refusal :=
  runCommand (.tanFastest w rd rs1) rd (single w (.ok (tanApprox s.build w .fastest (opnd w s rs1)))) s

/-- ATAN2: y from RS1 and x from RS2, Atan2_0 (R273). -/
def execAtan2 (w : Family) (rd rs1 rs2 : RegNum) (s : State) : Host.Outcome State Fault Refusal :=
  runCommand (.atan2 w rd rs1 rs2) rd (single w (.ok (atan2Approx s.build w .base (opnd w s rs1) (opnd w s rs2)))) s

/-- ATAN2.FAST: y from RS1 and x from RS2, Atan2_1 (R274). -/
def execAtan2Fast (w : Family) (rd rs1 rs2 : RegNum) (s : State) : Host.Outcome State Fault Refusal :=
  runCommand (.atan2Fast w rd rs1 rs2) rd (single w (.ok (atan2Approx s.build w .fast (opnd w s rs1) (opnd w s rs2)))) s

/-- ATAN2.FASTEST: y from RS1 and x from RS2, Atan2_2 (R275). -/
def execAtan2Fastest (w : Family) (rd rs1 rs2 : RegNum) (s : State) : Host.Outcome State Fault Refusal :=
  runCommand (.atan2Fastest w rd rs1 rs2) rd (single w (.ok (atan2Approx s.build w .fastest (opnd w s rs1) (opnd w s rs2)))) s

/-- ASIN: Asin_0 (R277). -/
def execAsin (w : Family) (rd rs1 : RegNum) (s : State) : Host.Outcome State Fault Refusal :=
  runCommand (.asin w rd rs1) rd (single w (asinApprox s.build w .base (opnd w s rs1))) s

/-- ASIN.FAST: Asin_1 (R278). -/
def execAsinFast (w : Family) (rd rs1 : RegNum) (s : State) : Host.Outcome State Fault Refusal :=
  runCommand (.asinFast w rd rs1) rd (single w (asinApprox s.build w .fast (opnd w s rs1))) s

/-- ASIN.FASTEST: Asin_2 (R279). -/
def execAsinFastest (w : Family) (rd rs1 : RegNum) (s : State) : Host.Outcome State Fault Refusal :=
  runCommand (.asinFastest w rd rs1) rd (single w (asinApprox s.build w .fastest (opnd w s rs1))) s

/-- ACOS: Acos_0 (R281). -/
def execAcos (w : Family) (rd rs1 : RegNum) (s : State) : Host.Outcome State Fault Refusal :=
  runCommand (.acos w rd rs1) rd (single w (acosApprox s.build w .base (opnd w s rs1))) s

/-- ACOS.FAST: Acos_1 (R282). -/
def execAcosFast (w : Family) (rd rs1 : RegNum) (s : State) : Host.Outcome State Fault Refusal :=
  runCommand (.acosFast w rd rs1) rd (single w (acosApprox s.build w .fast (opnd w s rs1))) s

/-- ACOS.FASTEST: Acos_2 (R283). -/
def execAcosFastest (w : Family) (rd rs1 : RegNum) (s : State) : Host.Outcome State Fault Refusal :=
  runCommand (.acosFastest w rd rs1) rd (single w (acosApprox s.build w .fastest (opnd w s rs1))) s

end Sys2Proof.Machine
end

