-- ==== Sys2Proof/Machine/VectorOps.lean ====
section
/-! DEFINITION. Vector operations (44_vector.md): CLAMP, LERP, DOT, CROSS, LENSQR, LENSQRW, LENGTH in four tiers,
NORM and CLAMPLEN in three. -/

namespace Sys2Proof.Machine

/-- CLAMP: the lower bound is tested first (R302). -/
def clampRaw (v lo hi : Int) : Int := if v < lo then lo else if v > hi then hi else v

/-- LERP: `wrap_N(asr(a * u + b * t, F))` with `u = wrap_N(ONE_W - t)`, one floor (R303). -/
def lerpRaw (b : Build) (w : Family) (x y t : Int) : Int :=
  wrap w.bits (asr (x * wrap w.bits (oneRaw b w - t) + y * t) (fracBits b w))

/-- DOT: the wrapping sum of the MULs, from component 0 on (R304). -/
def dotRaw (b : Build) (w : Family) (xs ys : List Int) : Int :=
  (xs.zip ys).foldl (fun acc p => wrap w.bits (acc + mulW b w p.1 p.2)) 0

/-- One component of CROSS: `SUB_W(MUL_W(p, q), MUL_W(u, v))` (R305). -/
def crossTerm (b : Build) (w : Family) (p q u v : Int) : Int := subW w (mulW b w p q) (mulW b w u v)

/-- The exact sum of the squares (R306, R307). -/
def sumSquares (xs : List Int) : Int := (xs.map fun x => x ^ 2).sum

/-- `LenSqr_W`: one floor shift of the exact sum, wrapped (R306). -/
def lenSqr (b : Build) (w : Family) (xs : List Int) : Int := wrap w.bits (asr (sumSquares xs) (fracBits b w))

/-- The squared length with which LENGTH, NORM and CLAMPLEN go on, or the domain error of a wrapped negative
one: `if L < 0: domain_check(true, 0, 0, L)` (R308). `root` is the square root taken of L >= 0. -/
def lengthOf (b : Build) (l : Int) (root : Int → Except DomainError Int) : Except DomainError Int :=
  if l < 0 then domainCheck b 0 0 l else root l

/-- `Length_t` for t = 0, 1, 2 (R308). -/
def lengthApprox (b : Build) (w : Family) (t : Tier) (xs : List Int) : Except DomainError Int :=
  lengthOf b (lenSqr b w xs) (sqrtApprox b w t)

/-- `Length_3`, the exact root of the squared length (R308). -/
def lengthPreciseRaw (b : Build) (w : Family) (xs : List Int) : Except DomainError Int :=
  lengthOf b (lenSqr b w xs) (sqrtPreciseRaw b w)

/-- `Norm_t`: `k = RsqrtApprox_t(LenSqr)` reported as an internal value, then `MUL_W(a[i], k)` (R313). -/
def normApprox (b : Build) (w : Family) (t : Tier) (xs : List Int) : Except DomainError (List Int) :=
  (rsqrtApprox b w t 0 (lenSqr b w xs)).map fun k => xs.map fun x => mulW b w x k

/-- `ClampLen_t`: normalise and scale by m only if `len > m` (R317). -/
def clampLenApprox (b : Build) (w : Family) (t : Tier) (xs : List Int) (m : Int) : Except DomainError (List Int) :=
  match lengthApprox b w t xs with
  | .error e => .error e
  | .ok len =>
    if len > m then (normApprox b w t xs).map fun us => us.map fun u => mulW b w u m
    else .ok xs

/-- A list of family-W results as the patterns to write (00_scope.md R12). -/
def groupResult (w : Family) (r : Except DomainError (List Int)) : Except DomainError (List Word64) :=
  r.map fun vs => vs.map (result w)

/-- CLAMP: each component of RS1 between RS2 and RS3, which S = 1 makes scalars (R302). -/
def execClamp (w : Family) (vl : VLen) (sb : Bool) (rd rs1 rs2 rs3 : RegNum) (s : State) :
    Host.Outcome State Fault Refusal :=
  runCommand (.clamp w vl sb rd rs1 rs2 rs3) rd
    (componentwise w vl.count fun i =>
      .ok (clampRaw (opnd w s (comp rs1 i)) (opnd w s (bcomp sb rs2 i)) (opnd w s (bcomp sb rs3 i)))) s

/-- LERP: each component between RS1 and RS2 by the scalar t in RS3 (R303). -/
def execLerp (w : Family) (vl : VLen) (rd rs1 rs2 rs3 : RegNum) (s : State) : Host.Outcome State Fault Refusal :=
  runCommand (.lerp w vl rd rs1 rs2 rs3) rd
    (componentwise w vl.count fun i =>
      .ok (lerpRaw s.build w (opnd w s (comp rs1 i)) (opnd w s (comp rs2 i)) (opnd w s rs3))) s

/-- DOT: the dot product of two groups, in one register (R304). -/
def execDot (w : Family) (vl : VLen) (rd rs1 rs2 : RegNum) (s : State) : Host.Outcome State Fault Refusal :=
  runCommand (.dot w vl rd rs1 rs2) rd
    (single w (.ok (dotRaw s.build w (opnds w s rs1 vl.count) (opnds w s rs2 vl.count)))) s

/-- CROSS: the cross product of two groups of 3 (R305). -/
def execCross (w : Family) (rd rs1 rs2 : RegNum) (s : State) : Host.Outcome State Fault Refusal :=
  runCommand (.cross w rd rs1 rs2) rd
    (groupResult w (.ok
      [crossTerm s.build w (opnd w s (comp rs1 1)) (opnd w s (comp rs2 2)) (opnd w s (comp rs1 2)) (opnd w s (comp rs2 1)),
       crossTerm s.build w (opnd w s (comp rs1 2)) (opnd w s (comp rs2 0)) (opnd w s (comp rs1 0)) (opnd w s (comp rs2 2)),
       crossTerm s.build w (opnd w s (comp rs1 0)) (opnd w s (comp rs2 1)) (opnd w s (comp rs1 1)) (opnd w s (comp rs2 0))])) s

/-- LENSQR: the squared length, narrowed to family W (R306). -/
def execLensqr (w : Family) (vl : VLen) (rd rs1 : RegNum) (s : State) : Host.Outcome State Fault Refusal :=
  runCommand (.lensqr w vl rd rs1) rd (single w (.ok (lenSqr s.build w (opnds w s rs1 vl.count)))) s

/-- LENSQRW: the squared length of a family-32 group as a family-64 value, not narrowed (R307). -/
def execLensqrw (vl : VLen) (rd rs1 : RegNum) (s : State) : Host.Outcome State Fault Refusal :=
  runCommand (.lensqrw vl rd rs1) rd
    (single .q32 (.ok (wrap 64 (asr (sumSquares (opnds .q16 s rs1 vl.count)) (32 - s.build.frac64.bits))))) s

/-- LENGTH: Length_0 (R309). -/
def execLength (w : Family) (vl : VLen) (rd rs1 : RegNum) (s : State) : Host.Outcome State Fault Refusal :=
  runCommand (.length w vl rd rs1) rd (single w (lengthApprox s.build w .base (opnds w s rs1 vl.count))) s

/-- LENGTH.FAST: Length_1 (R310). -/
def execLengthFast (w : Family) (vl : VLen) (rd rs1 : RegNum) (s : State) : Host.Outcome State Fault Refusal :=
  runCommand (.lengthFast w vl rd rs1) rd (single w (lengthApprox s.build w .fast (opnds w s rs1 vl.count))) s

/-- LENGTH.FASTEST: Length_2 (R311). -/
def execLengthFastest (w : Family) (vl : VLen) (rd rs1 : RegNum) (s : State) : Host.Outcome State Fault Refusal :=
  runCommand (.lengthFastest w vl rd rs1) rd (single w (lengthApprox s.build w .fastest (opnds w s rs1 vl.count))) s

/-- LENGTH.PRECISE: Length_3 (R312). -/
def execLengthPrecise (w : Family) (vl : VLen) (rd rs1 : RegNum) (s : State) : Host.Outcome State Fault Refusal :=
  runCommand (.lengthPrecise w vl rd rs1) rd (single w (lengthPreciseRaw s.build w (opnds w s rs1 vl.count))) s

/-- NORM: Norm_0 (R314). -/
def execNorm (w : Family) (vl : VLen) (rd rs1 : RegNum) (s : State) : Host.Outcome State Fault Refusal :=
  runCommand (.norm w vl rd rs1) rd (groupResult w (normApprox s.build w .base (opnds w s rs1 vl.count))) s

/-- NORM.FAST: Norm_1 (R315). -/
def execNormFast (w : Family) (vl : VLen) (rd rs1 : RegNum) (s : State) : Host.Outcome State Fault Refusal :=
  runCommand (.normFast w vl rd rs1) rd (groupResult w (normApprox s.build w .fast (opnds w s rs1 vl.count))) s

/-- NORM.FASTEST: Norm_2 (R316). -/
def execNormFastest (w : Family) (vl : VLen) (rd rs1 : RegNum) (s : State) : Host.Outcome State Fault Refusal :=
  runCommand (.normFastest w vl rd rs1) rd (groupResult w (normApprox s.build w .fastest (opnds w s rs1 vl.count))) s

/-- CLAMPLEN: ClampLen_0 with the maximum in RS2 (R318). -/
def execClamplen (w : Family) (vl : VLen) (rd rs1 rs2 : RegNum) (s : State) : Host.Outcome State Fault Refusal :=
  runCommand (.clamplen w vl rd rs1 rs2) rd (groupResult w (clampLenApprox s.build w .base (opnds w s rs1 vl.count) (opnd w s rs2))) s

/-- CLAMPLEN.FAST: ClampLen_1 with the maximum in RS2 (R319). -/
def execClamplenFast (w : Family) (vl : VLen) (rd rs1 rs2 : RegNum) (s : State) : Host.Outcome State Fault Refusal :=
  runCommand (.clamplenFast w vl rd rs1 rs2) rd (groupResult w (clampLenApprox s.build w .fast (opnds w s rs1 vl.count) (opnd w s rs2))) s

/-- CLAMPLEN.FASTEST: ClampLen_2 with the maximum in RS2 (R320). -/
def execClamplenFastest (w : Family) (vl : VLen) (rd rs1 rs2 : RegNum) (s : State) : Host.Outcome State Fault Refusal :=
  runCommand (.clamplenFastest w vl rd rs1 rs2) rd (groupResult w (clampLenApprox s.build w .fastest (opnds w s rs1 vl.count) (opnd w s rs2))) s

end Sys2Proof.Machine
end

