-- ==== Sys2Proof/Machine/Dispatch.lean ====
section
/-! DEFINITION. One arm per constructor of Instr: the meaning of each command. -/

namespace Sys2Proof.Machine

/-- Run one legal command to completion (10_state.md R45, 60_exceptions.md R345). -/
def exec (i : Instr) (s : State) : Host.Outcome State Fault Refusal :=
  match i with
  | .nop => Sys2Proof.Machine.execNop s
  | .mov w vl rd rs1 => Sys2Proof.Machine.execMov w vl rd rs1 s
  | .const w rd k => Sys2Proof.Machine.execConst w rd k s
  | .widen vl rd rs1 => Sys2Proof.Machine.execWiden vl rd rs1 s
  | .narrow vl rd rs1 => Sys2Proof.Machine.execNarrow vl rd rs1 s
  | .fromint w rd rs1 => Sys2Proof.Machine.execFromint w rd rs1 s
  | .floor w rd rs1 => Sys2Proof.Machine.execFloor w rd rs1 s
  | .ceil w rd rs1 => Sys2Proof.Machine.execCeil w rd rs1 s
  | .round w rd rs1 => Sys2Proof.Machine.execRound w rd rs1 s
  | .fromf w rd rs1 => Sys2Proof.Machine.execFromf w rd rs1 s
  | .fromd w rd rs1 => Sys2Proof.Machine.execFromd w rd rs1 s
  | .tof w rd rs1 => Sys2Proof.Machine.execTof w rd rs1 s
  | .tod w rd rs1 => Sys2Proof.Machine.execTod w rd rs1 s
  | .ratio w rd rs1 rs2 => Sys2Proof.Machine.execRatio w rd rs1 rs2 s
  | .cmp w rd rs1 rs2 => Sys2Proof.Machine.execCmp w rd rs1 rs2 s
  | .add w vl sb rd rs1 rs2 => Sys2Proof.Machine.execAdd w vl sb rd rs1 rs2 s
  | .sub w vl sb rd rs1 rs2 => Sys2Proof.Machine.execSub w vl sb rd rs1 rs2 s
  | .mul w vl sb rd rs1 rs2 => Sys2Proof.Machine.execMul w vl sb rd rs1 rs2 s
  | .div w vl sb rd rs1 rs2 => Sys2Proof.Machine.execDiv w vl sb rd rs1 rs2 s
  | .divFast w vl sb rd rs1 rs2 => Sys2Proof.Machine.execDivFast w vl sb rd rs1 rs2 s
  | .divFastest w vl sb rd rs1 rs2 => Sys2Proof.Machine.execDivFastest w vl sb rd rs1 rs2 s
  | .divPrecise w vl sb rd rs1 rs2 => Sys2Proof.Machine.execDivPrecise w vl sb rd rs1 rs2 s
  | .mod w vl sb rd rs1 rs2 => Sys2Proof.Machine.execMod w vl sb rd rs1 rs2 s
  | .neg w rd rs1 => Sys2Proof.Machine.execNeg w rd rs1 s
  | .abs w rd rs1 => Sys2Proof.Machine.execAbs w rd rs1 s
  | .min w rd rs1 rs2 => Sys2Proof.Machine.execMin w rd rs1 rs2 s
  | .max w rd rs1 rs2 => Sys2Proof.Machine.execMax w rd rs1 rs2 s
  | .clamp w vl sb rd rs1 rs2 rs3 => Sys2Proof.Machine.execClamp w vl sb rd rs1 rs2 rs3 s
  | .lerp w vl rd rs1 rs2 rs3 => Sys2Proof.Machine.execLerp w vl rd rs1 rs2 rs3 s
  | .sqrt w rd rs1 => Sys2Proof.Machine.execSqrt w rd rs1 s
  | .sqrtFast w rd rs1 => Sys2Proof.Machine.execSqrtFast w rd rs1 s
  | .sqrtFastest w rd rs1 => Sys2Proof.Machine.execSqrtFastest w rd rs1 s
  | .sqrtPrecise w rd rs1 => Sys2Proof.Machine.execSqrtPrecise w rd rs1 s
  | .rsqrt w rd rs1 => Sys2Proof.Machine.execRsqrt w rd rs1 s
  | .rsqrtFast w rd rs1 => Sys2Proof.Machine.execRsqrtFast w rd rs1 s
  | .rsqrtFastest w rd rs1 => Sys2Proof.Machine.execRsqrtFastest w rd rs1 s
  | .rcp w rd rs1 => Sys2Proof.Machine.execRcp w rd rs1 s
  | .rcpFast w rd rs1 => Sys2Proof.Machine.execRcpFast w rd rs1 s
  | .rcpFastest w rd rs1 => Sys2Proof.Machine.execRcpFastest w rd rs1 s
  | .exp2 w rd rs1 => Sys2Proof.Machine.execExp2 w rd rs1 s
  | .exp2Fast w rd rs1 => Sys2Proof.Machine.execExp2Fast w rd rs1 s
  | .exp2Fastest w rd rs1 => Sys2Proof.Machine.execExp2Fastest w rd rs1 s
  | .log2 w rd rs1 => Sys2Proof.Machine.execLog2 w rd rs1 s
  | .log2Fast w rd rs1 => Sys2Proof.Machine.execLog2Fast w rd rs1 s
  | .log2Fastest w rd rs1 => Sys2Proof.Machine.execLog2Fastest w rd rs1 s
  | .exp w rd rs1 => Sys2Proof.Machine.execExp w rd rs1 s
  | .expFast w rd rs1 => Sys2Proof.Machine.execExpFast w rd rs1 s
  | .expFastest w rd rs1 => Sys2Proof.Machine.execExpFastest w rd rs1 s
  | .log w rd rs1 => Sys2Proof.Machine.execLog w rd rs1 s
  | .logFast w rd rs1 => Sys2Proof.Machine.execLogFast w rd rs1 s
  | .logFastest w rd rs1 => Sys2Proof.Machine.execLogFastest w rd rs1 s
  | .pow w rd rs1 rs2 => Sys2Proof.Machine.execPow w rd rs1 rs2 s
  | .powFast w rd rs1 rs2 => Sys2Proof.Machine.execPowFast w rd rs1 rs2 s
  | .powFastest w rd rs1 rs2 => Sys2Proof.Machine.execPowFastest w rd rs1 rs2 s
  | .sin w rd rs1 => Sys2Proof.Machine.execSin w rd rs1 s
  | .sinFast w rd rs1 => Sys2Proof.Machine.execSinFast w rd rs1 s
  | .sinFastest w rd rs1 => Sys2Proof.Machine.execSinFastest w rd rs1 s
  | .cos w rd rs1 => Sys2Proof.Machine.execCos w rd rs1 s
  | .cosFast w rd rs1 => Sys2Proof.Machine.execCosFast w rd rs1 s
  | .cosFastest w rd rs1 => Sys2Proof.Machine.execCosFastest w rd rs1 s
  | .tan w rd rs1 => Sys2Proof.Machine.execTan w rd rs1 s
  | .tanFast w rd rs1 => Sys2Proof.Machine.execTanFast w rd rs1 s
  | .tanFastest w rd rs1 => Sys2Proof.Machine.execTanFastest w rd rs1 s
  | .atan2 w rd rs1 rs2 => Sys2Proof.Machine.execAtan2 w rd rs1 rs2 s
  | .atan2Fast w rd rs1 rs2 => Sys2Proof.Machine.execAtan2Fast w rd rs1 rs2 s
  | .atan2Fastest w rd rs1 rs2 => Sys2Proof.Machine.execAtan2Fastest w rd rs1 rs2 s
  | .asin w rd rs1 => Sys2Proof.Machine.execAsin w rd rs1 s
  | .asinFast w rd rs1 => Sys2Proof.Machine.execAsinFast w rd rs1 s
  | .asinFastest w rd rs1 => Sys2Proof.Machine.execAsinFastest w rd rs1 s
  | .acos w rd rs1 => Sys2Proof.Machine.execAcos w rd rs1 s
  | .acosFast w rd rs1 => Sys2Proof.Machine.execAcosFast w rd rs1 s
  | .acosFastest w rd rs1 => Sys2Proof.Machine.execAcosFastest w rd rs1 s
  | .dot w vl rd rs1 rs2 => Sys2Proof.Machine.execDot w vl rd rs1 rs2 s
  | .cross w rd rs1 rs2 => Sys2Proof.Machine.execCross w rd rs1 rs2 s
  | .lensqr w vl rd rs1 => Sys2Proof.Machine.execLensqr w vl rd rs1 s
  | .lensqrw vl rd rs1 => Sys2Proof.Machine.execLensqrw vl rd rs1 s
  | .length w vl rd rs1 => Sys2Proof.Machine.execLength w vl rd rs1 s
  | .lengthFast w vl rd rs1 => Sys2Proof.Machine.execLengthFast w vl rd rs1 s
  | .lengthFastest w vl rd rs1 => Sys2Proof.Machine.execLengthFastest w vl rd rs1 s
  | .lengthPrecise w vl rd rs1 => Sys2Proof.Machine.execLengthPrecise w vl rd rs1 s
  | .norm w vl rd rs1 => Sys2Proof.Machine.execNorm w vl rd rs1 s
  | .normFast w vl rd rs1 => Sys2Proof.Machine.execNormFast w vl rd rs1 s
  | .normFastest w vl rd rs1 => Sys2Proof.Machine.execNormFastest w vl rd rs1 s
  | .clamplen w vl rd rs1 rs2 => Sys2Proof.Machine.execClamplen w vl rd rs1 rs2 s
  | .clamplenFast w vl rd rs1 rs2 => Sys2Proof.Machine.execClamplenFast w vl rd rs1 rs2 s
  | .clamplenFastest w vl rd rs1 rs2 => Sys2Proof.Machine.execClamplenFastest w vl rd rs1 rs2 s

end Sys2Proof.Machine
end

