-- ==== Sys2Proof/Machine/Window.lean ====
section
/-! DEFINITION. The host window (20_memory.md): what a 32-bit read returns and what a 32-bit write does at each
offset (10_state.md R39; 20_memory.md R64, R65, R66), little-endian (R63). -/

namespace Sys2Proof.Machine

/-- The size of the window in bytes: 1 KiB (20_memory.md R60). -/
def windowSize : Nat := 0x400

/-- The offset of CMD (10_state.md R45). -/
def cmdOffset : Nat := 0x010

/-- The value of CFG: STRICT in bit 0, FRAC64 in 15:8, NREG in 23:16, CREV in 27:24 (10_state.md R42). -/
def cfgWord (b : Build) : Word32 :=
  (0 : BitVec 4) ++ BitVec.ofNat 4 Config.crev ++ BitVec.ofNat 8 Config.nreg ++ BitVec.ofNat 8 b.frac64.bits ++
  (0 : BitVec 7) ++ BitVec.ofBool b.strict

/-- The register whose words stand at an offset from 0x100 to 0x1FF: `0x100 + 8*i` (20_memory.md R64). -/
def windowReg (off : Nat) : RegNum := BitVec.ofNat 5 ((off - 0x100) / 8)

/-- The offset lies in the general registers' part of the window (10_state.md R39). -/
def isRegOffset (off : Nat) : Bool := decide (0x100 ≤ off) && decide (off < 0x200)

/-- The offset names the more significant word of its register: `0x104 + 8*i` (20_memory.md R63, R64). -/
def isHighWord (off : Nat) : Bool := decide (off % 8 = 4)

/-- The general register half that a read at `off` returns (20_memory.md R64). -/
def regHalf (s : State) (off : Nat) : Word32 :=
  if isHighWord off then (s.readReg (windowReg off)).extractLsb' 32 32
  else (s.readReg (windowReg off)).extractLsb' 0 32

/-- What `MemRead(off, 4)` returns, for an aligned offset of the window (10_state.md R41 to R49; 20_memory.md
R64, R65). CMD and every unmapped offset read 0 (10_state.md R45, 20_memory.md R66). -/
def windowRead (s : State) (off : Nat) : Word32 :=
  if isRegOffset off then regHalf s off
  else
    match off with
    | 0x000 => Config.idValue
    | 0x004 => cfgWord s.build
    | 0x008 => s.status
    | 0x00C => s.ctrl
    | 0x014 => s.cmdcnt
    | 0x018 => s.faultCmd
    | 0x01C => s.faultInfo
    | 0x020 => s.faultValLo
    | 0x024 => s.faultValHi
    | _ => 0

/-- The byte of the window at an offset: byte `off mod 4` of its word, the least significant first
(20_memory.md R63). -/
def windowByte (s : State) (off : Nat) : Byte := (windowRead s (off - off % 4)).extractLsb' (8 * (off % 4)) 8

/-- `MemWrite(0x100 + 8*i, 4, v)` and `MemWrite(0x104 + 8*i, 4, v)`: only the addressed half changes
(20_memory.md R64). -/
def State.writeHalf (s : State) (off : Nat) (v : Word32) : State :=
  if isHighWord off then s.writeReg (windowReg off) (v ++ (s.readReg (windowReg off)).extractLsb' 0 32)
  else s.writeReg (windowReg off) ((s.readReg (windowReg off)).extractLsb' 32 32 ++ v)

/-- A write to STATUS: bit 1 set clears DISCARD; nothing else (10_state.md R43). -/
def State.writeStatus (s : State) (v : Word32) : State := if v.getLsbD 1 then s.clearDiscard else s

/-- A write to CTRL: SOFT_RST performs the reset and nothing else; otherwise IRQ_EN takes bit 0, and FAULT_CLR
clears the fault-held state (10_state.md R44, 60_exceptions.md R348). -/
def State.writeCtrl (s : State) (v : Word32) : State :=
  if v.getLsbD 2 then s.resetUnit
  else if v.getLsbD 1 then { s with ctrl := v &&& 1 }.clearFault
  else { s with ctrl := v &&& 1 }

/-- What `MemWrite(off, 4, v)` does at an aligned offset of the window other than CMD: writes to read-only
registers and to unmapped offsets are ignored (20_memory.md R65, R66). -/
def windowWrite (s : State) (off : Nat) (v : Word32) : State :=
  if isRegOffset off then s.writeHalf off v
  else
    match off with
    | 0x008 => s.writeStatus v
    | 0x00C => s.writeCtrl v
    | _ => s

end Sys2Proof.Machine
end

