-- ==== Sys2Proof/Machine/Port.lean ====
section
/-! DEFINITION. The slave port and the reset input (10_state.md R33, R45, R50; 60_exceptions.md R345; 20_memory.md
R61, R62, R71): taking the next event of the host's sequence and serving it. -/

namespace Sys2Proof.Machine

/-- The next event of the host's sequence, and the state with that event taken off it (10_state.md R33). -/
def State.fetch (s : State) : Option (HostEvent × State) :=
  match s.pending with
  | [] => none
  | e :: rest => some (e, { s with pending := rest })

/-- `cmdidx` advances by one for every access (10_state.md R33). -/
def State.advance (s : State) : State := { s with cmdidx := s.cmdidx + 1 }

/-- The port returns a word to the host (assumption log 2). -/
def State.respond (s : State) (v : Word32) : State := { s with reads := v :: s.reads }

/-- `on MemWrite(0x010, 4, c)` (60_exceptions.md R345): in the fault-held state the word is discarded without
being decoded; an illegal word takes IllegalCommand; a legal one is executed. -/
def writeCmd (c : Word32) (s : State) : Host.Outcome State Fault Refusal :=
  if s.faultHeld then .next s.discardCommand
  else
    match decode c with
    | .ok i => exec i s
    | .error _ => .next (s.enterFault c .illegalCommand 0 0 0)

/-- Refuse an access outside the contract: not 32 bits wide (20_memory.md R61), or not aligned (R62); an offset
past the window is a fault (R60; assumption log 8, 9). -/
def admitted (off size : Nat) (k : Host.Outcome State Fault Refusal) : Host.Outcome State Fault Refusal :=
  if size ≠ 4 then .refused .accessSize
  else if off % 4 ≠ 0 then .refused .misaligned
  else if windowSize ≤ off then .fault .outsideWindow
  else k

/-- Serve one host access to completion (20_memory.md R65, R71). -/
def serveAccess (a : HostAccess) (s : State) : Host.Outcome State Fault Refusal :=
  match a with
  | .read off size => admitted off size (.next (s.respond (windowRead s off)))
  | .write off size v =>
    admitted off size (if off = cmdOffset then writeCmd v s else .next (windowWrite s off v))

/-- Serve one event: an access, or the reset input, which abandons any access it strikes
(70_reset_and_hazards.md R381, R383; assumption log 10). DESIGN CHOICE (log 10): the struck access is not looked at, so
one outside the contract (20_memory.md R61, R62, or past the window) is abandoned and counted too, and not refused. -/
def serveEvent (e : HostEvent) (s : State) : Host.Outcome State Fault Refusal :=
  match e with
  | .access a => serveAccess a s.advance
  | .resetInput => .next s.resetUnit
  | .resetDuring _ => .next s.advance.resetUnit

/-- s with a CMD write of the word put at the head of the host's sequence and the fault-held state left, so that
the next step executes that word (assumption log 1, 16). -/
def State.withCommand (s : State) (c : Word32) : State :=
  { s with
    pending := .access (.write cmdOffset 4 c) :: s.pending
    status := s.status &&& ~~~1 }

end Sys2Proof.Machine
end

