-- ==== Sys2Proof/Machine/Step.lean ====
section
/-! DEFINITION. One step of the machine: the next event of the host's sequence is served; when the sequence has
ended, nothing happens (10_state.md R33, 70_reset_and_hazards.md R393; assumption log 1). -/

namespace Sys2Proof.Machine

/-- One step (20_memory.md R71, 70_reset_and_hazards.md R390): one host access is one atomic step. -/
def step (s : State) : Host.Outcome State Fault Refusal :=
  match s.fetch with
  | none => .next s
  | some (e, s') => serveEvent e s'

/-- s with the instruction whose bits are w (nbits of them) as the command that the next step runs: a CMD write
of that word is the next host access (10_state.md R33, R45; assumption log 1, 16). -/
def State.withFetchWord (s : State) (nbits w : Nat) : State := s.withCommand (BitVec.ofNat 32 (w % 2 ^ nbits))

end Sys2Proof.Machine
end

