-- ==== Sys2Proof/Machine/Asm.lean ====
section
/-! DEFINITION. The assembler's view of a command (30_encoding.md R106): its text, from the word's fields and the
row of R98; and the pseudo-instructions (R107) as the commands they expand to. The unit sees the commands only. -/

namespace Sys2Proof.Machine

/-- The tier suffix (30_encoding.md R106). -/
def tierSuffix (t : BitVec 2) : String :=
  if t = 0 then "" else if t = 1 then ".fast" else if t = 2 then ".fastest" else ".precise"

/-- The vector suffix (30_encoding.md R106). -/
def vectorSuffix (vl : BitVec 2) : String :=
  if vl = 0 then "" else if vl = 1 then ".v2" else if vl = 2 then ".v3" else ".v4"

/-- The family suffix, required except on nop (30_encoding.md R106). -/
def familySuffix (f : Fields) : String := if f.op = 0 then "" else if f.w = 0 then ".q16" else ".q32"

/-- The decimal digits of a number below 100. -/
def decimal (n : Nat) : String :=
  if n < 10 then String.singleton (Char.ofNat (48 + n))
  else String.singleton (Char.ofNat (48 + n / 10)) ++ String.singleton (Char.ofNat (48 + n % 10))

/-- One operand: a register `r0` to `r31`, the CONST index `#k`, or nothing where the shape has none
(30_encoding.md R106). -/
def operandText (u : Use) (r : RegNum) : List String :=
  match u with
  | .unused => []
  | .index => ["#" ++ decimal r.toNat]
  | .one => ["r" ++ decimal r.toNat]
  | .group => ["r" ++ decimal r.toNat]

/-- The names that CONST's index may be written with, `#NAME`, and the index each stands for
(30_encoding.md R106, 10_state.md R36). -/
def romNames : List (String × RegNum) := [
  ("ZERO", 0), ("ONE", 1), ("HALF", 2), ("NEG_ONE", 3), ("PI", 4), ("PI_HALF", 5), ("TWO_PI", 6), ("LN2", 7),
  ("INV_LN2", 8), ("SQRT2", 9), ("MAX", 10), ("MIN", 11), ("EPSILON", 12), ("E", 13)]

/-- The operands in the order rd, rs1, rs2, rs3, leaving out the unused fields (30_encoding.md R106). -/
def operandTexts (r : Row) (f : Fields) : List String :=
  operandText r.d f.rd ++ operandText r.a f.rs1 ++ operandText r.b f.rs2 ++ operandText r.c f.rs3

/-- The mnemonic with its suffixes (30_encoding.md R106). -/
def mnemonicText (r : Row) (f : Fields) : String :=
  r.name ++ tierSuffix f.tier ++ vectorSuffix f.vl ++ (if f.s = 1 then ".s" else "") ++ familySuffix f

/-- A command in the assembler's syntax, as its mnemonic and its operands (30_encoding.md R106). -/
def asmText (i : Instr) : String × List String :=
  match rowOf i.fields.op with
  | none => ("", [])
  | some r => (mnemonicText r i.fields, operandTexts r i.fields)

/-- The pseudo-instructions (30_encoding.md R107). -/
inductive Pseudo where
  | clr (w : Family) (rd : RegNum)
  | one (w : Family) (rd : RegNum)
  | divp (w : Family) (rd rs1 rs2 : RegNum)
  | sqrtp (w : Family) (rd rs1 : RegNum)
  | sub1 (w : Family) (rd rs1 rt : RegNum)
  | vneg (w : Family) (vl : VLen) (rd rs1 : RegNum)
  | qconj (rd rs1 : RegNum)
deriving DecidableEq, Repr

/-- The commands that a pseudo-instruction stands for, in order (30_encoding.md R107). -/
def Pseudo.expand : Pseudo → List Instr
  | .clr w rd => [.const w rd 0]
  | .one w rd => [.const w rd 1]
  | .divp w rd rs1 rs2 => [.divPrecise w .x1 false rd rs1 rs2]
  | .sqrtp w rd rs1 => [.sqrtPrecise w rd rs1]
  | .sub1 w rd rs1 rt => [.const w rt 1, .sub w .x1 false rd rt rs1]
  | .vneg w vl rd rs1 =>
    (List.range vl.count).map fun i => .neg w (rd + BitVec.ofNat 5 i) (rs1 + BitVec.ofNat 5 i)
  | .qconj rd rs1 =>
    [.neg .q32 rd rs1, .neg .q32 (rd + 1) (rs1 + 1), .neg .q32 (rd + 2) (rs1 + 2), .mov .q32 .x1 (rd + 3) (rs1 + 3)]

/-- What the assembler asks of the operands (30_encoding.md R107): the scratch register of sub1 is not its
source; the groups of vneg lie below R32 and do not overlap unless they are one; so too the groups of qconj. -/
def Pseudo.wellFormed : Pseudo → Bool
  | .sub1 _ _ rs1 rt => rt != rs1
  | .vneg _ vl rd rs1 =>
    groupFits vl rd && groupFits vl rs1 &&
    (rd == rs1 || decide (rd.toNat + vl.count ≤ rs1.toNat) || decide (rs1.toNat + vl.count ≤ rd.toNat))
  | .qconj rd rs1 => groupFits .x4 rd && groupFits .x4 rs1
  | _ => true

end Sys2Proof.Machine
end

