-- ==== Sys2Proof/Machine/Conformance.lean ====
section
/-! DEFINITION. The named conformance properties of the configuration functions (41_scalar_arith.md R187;
42_sqrt_rcp.md R223 to R225; 43_transcendental.md R285 to R291). Each is a hypothesis that a claim may name; the
machine assumes none of them. SIN-ODD and ATAN2-AXIS, which the spec requires of every unit, hold by
construction (Laws/Numbers.lean, assumption log 5). Bounds, tolerances and swept domains are OPEN (log 12). -/

namespace Sys2Proof.Machine

/-- The bound of the approximate division: the relative error over the swept domain is at most ERR[DIV][W][t]
(41_scalar_arith.md R187). -/
def DivBound (b : Build) (w : Family) (t : Tier) : Prop :=
  ∀ x y : Int, 0 < y → inRaw w x → inRaw w y → Config.swept b .div w t [x, y] →
    |((cfgDivPos b w t x y * y - shl x (fracBits b w) : Int) : Rat)| ≤
      Config.err b .div w t * |((shl x (fracBits b w) : Int) : Rat)|

/-- The order between the bounds of the tiers (41_scalar_arith.md R187, 43_transcendental.md R291, TIER-ORDER). -/
def TierOrder (b : Build) (fn : ApproxFn) (w : Family) : Prop :=
  Config.err b fn w .base ≤ Config.err b fn w .fast ∧ Config.err b fn w .fast ≤ Config.err b fn w .fastest

/-- SQRT-MONO[W][t] (42_sqrt_rcp.md R223): non-decreasing on the non-negative raw values. -/
def SqrtMono (b : Build) (w : Family) (t : Tier) : Prop :=
  ∀ x y : Int, 0 ≤ x → x < y → inRaw w y → ∀ p q, sqrtApprox b w t x = .ok p → sqrtApprox b w t y = .ok q → p ≤ q

/-- SQRT-SQ[W][t] (42_sqrt_rcp.md R224). DESIGN CHOICE (assumption log 12): R224 states no range of x for this property,
and the model takes every x whose square MUL does not wrap, |x| < ONE included, where R224 says that the error of
SQRT.PRECISE grows. -/
def SqrtSquare (b : Build) (w : Family) (t : Tier) : Prop :=
  ∀ x : Int, inRaw w x → inRaw w (asr (x * x) (fracBits b w)) → ∀ p, sqrtApprox b w t (mulW b w x x) = .ok p →
    |((|x| - p : Int) : Rat)| ≤ Config.tolSq b w t

/-- RSQRT-SQRT[W][t] (42_sqrt_rcp.md R225). -/
def RsqrtSqrt (b : Build) (w : Family) (t : Tier) : Prop :=
  ∀ x : Int, 0 < x → inRaw w x → Config.swept b .rsqrt w t [x] →
    ∀ p q, rsqrtApprox b w t 1 x = .ok p → sqrtApprox b w t x = .ok q →
      |((mulW b w p q - oneRaw b w : Int) : Rat)| ≤ Config.tolRs b w t

/-- SIN-ODD (43_transcendental.md R285), required of every unit; it holds by construction (assumption log 5). -/
def SinOdd (b : Build) (w : Family) (t : Tier) : Prop :=
  ∀ a : Int, inRaw w a → a ≠ minRaw w → cfgSin b w t (-a) = negW w (cfgSin b w t a)

/-- SIN-PERIOD (43_transcendental.md R286): for a in the swept domain whose sum with TWO_PI does not wrap. -/
def SinPeriod (b : Build) (w : Family) (t : Tier) : Prop :=
  ∀ a : Int, inRaw w a → inRaw w (a + romTwoPi b w) → Config.swept b .sin w t [a] →
    |((sinApprox b w t (addW w a (romTwoPi b w)) - sinApprox b w t a : Int) : Rat)| ≤ Config.tolPer b w t

/-- ATAN2-AXIS (43_transcendental.md R287), required of every unit; it holds by construction (assumption log 5). -/
def Atan2Axis (b : Build) (w : Family) (t : Tier) : Prop :=
  cfgAtan2 b w t 0 (oneRaw b w) = 0 ∧ cfgAtan2 b w t (oneRaw b w) 0 = romPiHalf b w ∧
  cfgAtan2 b w t 0 (-oneRaw b w) = romPi b w ∧ cfgAtan2 b w t (-oneRaw b w) 0 = negW w (romPiHalf b w)

/-- ATAN2-AXIS-ALL (43_transcendental.md R287): the same for every positive magnitude. Not required. -/
def Atan2AxisAll (b : Build) (w : Family) (t : Tier) : Prop :=
  ∀ v : Int, 0 < v → inRaw w v →
    cfgAtan2 b w t 0 v = 0 ∧ cfgAtan2 b w t v 0 = romPiHalf b w ∧
    cfgAtan2 b w t 0 (-v) = romPi b w ∧ cfgAtan2 b w t (-v) 0 = negW w (romPiHalf b w)

/-- LOG-MONO (43_transcendental.md R288), for Log2 and for Log. -/
def LogMono (b : Build) (w : Family) (t : Tier) : Prop :=
  ∀ x y : Int, 0 < x → x < y → inRaw w y →
    (∀ p q, log2Approx b w t x = .ok p → log2Approx b w t y = .ok q → p ≤ q) ∧
    (∀ p q, logApprox b w t x = .ok p → logApprox b w t y = .ok q → p ≤ q)

/-- EXP-LOG (43_transcendental.md R289). -/
def ExpLog (b : Build) (w : Family) (t : Tier) : Prop :=
  ∀ a : Int, 0 < a → inRaw w a → Config.swept b .exp w t [a] → ∀ l, logApprox b w t a = .ok l →
    |((expApprox b w t l - a : Int) : Rat)| ≤
      Config.tolEl b w t * ((max (oneRaw b w) a : Int) : Rat) / ((oneRaw b w : Int) : Rat)

/-- POW-ONE (43_transcendental.md R290). Not required, and no claim of the package assumes it. -/
def PowOne (b : Build) (w : Family) (t : Tier) : Prop :=
  ∀ x : Int, 0 < x → inRaw w x → powApprox b w t x (oneRaw b w) = .ok x

end Sys2Proof.Machine
end

