-- ==== Sys2Proof/Safety.lean ====
section
/-! DEFINITION. The words in which claims about the FXU are stated: what a command that completes leaves, what a
command that takes a fault leaves, the condition that every step keeps on the status and capture registers, and
the latency of a command. -/

namespace Sys2Proof.Machine

/-- Everything but the general registers, CMDCNT, the status and capture registers and the draw counter is as
it was: CTRL, the build constants and the host's side of the port. -/
def KeepsPort (s t : State) : Prop :=
  t.ctrl = s.ctrl ∧ t.build = s.build ∧ t.pending = s.pending ∧ t.cmdidx = s.cmdidx ∧ t.reads = s.reads

/-- STATUS and the capture registers are as they were. -/
def KeepsCapture (s t : State) : Prop :=
  t.status = s.status ∧ t.faultCmd = s.faultCmd ∧ t.faultInfo = s.faultInfo ∧
  t.faultValLo = s.faultValLo ∧ t.faultValHi = s.faultValHi

/-- The n registers from rd on hold v 0 to v (n-1), and every other register is as it was. -/
def WritesExactly (s t : State) (rd : RegNum) (n : Nat) (v : Nat → Word64) : Prop :=
  (∀ i < n, t.readReg (comp rd i) = v i) ∧ (∀ q, (∀ i < n, q ≠ comp rd i) → t.readReg q = s.readReg q)

/-- The command completed: it wrote exactly the group, CMDCNT counted it, and nothing else changed but the draw
counter (10_state.md R46; 44_vector.md R300; 60_exceptions.md R345). -/
def Completed (s t : State) (rd : RegNum) (n : Nat) (v : Nat → Word64) : Prop :=
  WritesExactly s t rd n v ∧ t.cmdcnt = s.cmdcnt + 1 ∧ KeepsCapture s t ∧ KeepsPort s t

/-- The command answers a next state in which it completed with these results and took no draw. -/
def Computes (i : Instr) (s : State) (rd : RegNum) (n : Nat) (v : Nat → Word64) : Prop :=
  ∃ t, exec i s = .next t ∧ Completed s t rd n v ∧ t.draws = s.draws

/-- The command completes with the one family-W result v in RD. -/
def ComputesOne (i : Instr) (s : State) (rd : RegNum) (w : Family) (v : Int) : Prop :=
  Computes i s rd 1 fun _ => result w v

/-- The state after fault entry: the capture registers describe the fault, FAULT is set, DISCARD, the general
registers, CMDCNT and everything else are as they were (60_exceptions.md R345, R346). -/
def Faulted (s t : State) (c : Word32) (cause : Cause) (arg cmp : BitVec 2) (val : Int) : Prop :=
  (∀ q, t.readReg q = s.readReg q) ∧ t.cmdcnt = s.cmdcnt ∧ t.draws = s.draws ∧ KeepsPort s t ∧
  t.faultCmd = c ∧ t.faultInfo = faultInfoWord cause arg cmp ∧ t.faultVal = BitVec.ofInt 64 val ∧
  t.faultHeld = true ∧ t.discard = s.discard

/-- The command answers a next state in which it took DomainFault with this ARG, COMP and value. -/
def TrapsDomain (i : Instr) (s : State) (arg cmp : BitVec 2) (val : Int) : Prop :=
  ∃ t, exec i s = .next t ∧ Faulted s t (encode i) .domainFault arg cmp val

/-- The destination of a command: the base register and how many registers it writes (30_encoding.md R98:
"D" is a group of n registers, "d" one). -/
def destination (i : Instr) : RegNum × Nat :=
  match rowOf i.fields.op with
  | none => (i.fields.rd, 0)
  | some r =>
    match r.d with
    | .group => (i.fields.rd, i.fields.vl.toNat + 1)
    | .one => (i.fields.rd, 1)
    | _ => (i.fields.rd, 0)

/-- The two commands whose out-of-range result is a draw of FLTCVT_OOR (40_conversion.md R140, R141). -/
def drawsFloat : Instr → Bool
  | .fromf _ _ _ => true
  | .fromd _ _ _ => true
  | _ => false

/-- The ARG that a DomainFault of this opcode reports; none for an opcode without a domain condition
(60_exceptions.md R342). -/
def domainArg (op : BitVec 6) : Option (BitVec 2) :=
  if op = 0x13 ∨ op = 0x14 ∨ op = 0x0D then some 2
  else if op = 0x20 ∨ op = 0x21 ∨ op = 0x22 ∨ op = 0x29 ∨ op = 0x2B ∨ op = 0x2C ∨ op = 0x31 ∨ op = 0x32 then some 1
  else if op = 0x3C ∨ op = 0x3D ∨ op = 0x3E then some 0
  else none

/-- No fault since reset: the capture registers are 0 and no fault is held (10_state.md R48, R52). -/
def NoFaultYet (s : State) : Prop :=
  s.faultInfo = 0 ∧ s.faultCmd = 0 ∧ s.faultVal = 0 ∧ s.faultHeld = false

/-- The capture registers describe an IllegalCommand: an illegal word, with ARG, COMP and the value 0
(60_exceptions.md R341, R345). -/
def IllegalCaptured (s : State) : Prop :=
  s.faultInfo = faultInfoWord .illegalCommand 0 0 ∧ legal s.faultCmd = false ∧ s.faultVal = 0

/-- The capture registers describe a DomainFault: a legal word of a strict build, whose opcode has a domain
condition with the ARG reported, of a component that the command has (60_exceptions.md R342, R343, R345). -/
def DomainCaptured (s : State) : Prop :=
  s.build.strict = true ∧ legal s.faultCmd = true ∧
  ∃ arg cmp : BitVec 2, s.faultInfo = faultInfoWord .domainFault arg cmp ∧
    domainArg (unpack s.faultCmd).op = some arg ∧ cmp.toNat ≤ (unpack s.faultCmd).vl.toNat

/-- The condition on the control, status and capture registers that every step keeps: reserved bits read 0
(10_state.md R43, R44, R48), DISCARD is set only while FAULT is (R43; 60_exceptions.md R347, R348), and the
capture registers describe the most recent fault, or none (60_exceptions.md R345, R352). -/
def CaptureInv (s : State) : Prop :=
  s.status &&& ~~~3 = 0 ∧ s.ctrl &&& ~~~1 = 0 ∧ (s.discard = true → s.faultHeld = true) ∧
  (NoFaultYet s ∨ IllegalCaptured s ∨ DomainCaptured s)

/-- The latency of a command in a unit of build b: LAT[op], by OP, W, TIER and VL only within that unit
(70_reset_and_hazards.md R390; assumption log 13). -/
def latency (b : Build) (i : Instr) : Nat := Config.lat b i.fields.op i.fields.w i.fields.tier i.fields.vl

/-- The host's next access is `a`, and `s'` is the state in which it is served: s with that access taken off the
host's sequence and counted by cmdidx (10_state.md R33). -/
def NextAccess (s : State) (a : HostAccess) (s' : State) : Prop :=
  ∃ rest, s.pending = .access a :: rest ∧ s' = { s with pending := rest, cmdidx := s.cmdidx + 1 }

/-- When the host's next access is a 32-bit read at `off`, the step returns v to the host and has no other
effect (20_memory.md R65). -/
def ReadsAs (s : State) (off : Nat) (v : Word32) : Prop :=
  ∀ s', NextAccess s (.read off 4) s' → step s = .next { s' with reads := v :: s'.reads }

/-- When the host's next access is a 32-bit write at `off`, the step has no effect (20_memory.md R65, R66). -/
def IgnoresWrite (s : State) (off : Nat) (v : Word32) : Prop :=
  ∀ s', NextAccess s (.write off 4 v) s' → step s = .next s'

/-- Every register at its reset value, and irq deasserted (10_state.md R52). -/
def ResetValues (t : State) : Prop :=
  (∀ r, t.readReg r = 0) ∧ t.status = 0 ∧ t.ctrl = 0 ∧ t.cmdcnt = 0 ∧ t.faultCmd = 0 ∧ t.faultInfo = 0 ∧
  t.faultValLo = 0 ∧ t.faultValHi = 0 ∧ t.irq = false

/-- The host's next event resets the unit: the reset input, between accesses or during one, or a CTRL write with
SOFT_RST (10_state.md R44; 70_reset_and_hazards.md R381, R383; assumption log 10). -/
def ResetNext (s : State) : Prop :=
  ∃ rest, s.pending = .resetInput :: rest ∨ (∃ a, s.pending = .resetDuring a :: rest) ∨
    ∃ v : Word32, v.getLsbD 2 = true ∧ s.pending = .access (.write 0x00C 4 v) :: rest

/-- The causes for which a word is illegal, as 60_exceptions.md R341 lists them. -/
def IllegalCause (c : Word32) : Prop :=
  rowOf (unpack c).op = none ∨
  ∃ r, rowOf (unpack c).op = some r ∧
    ((unpack c).w ∉ r.fams ∨ (unpack c).tier ∉ r.tiers ∨ (unpack c).vl ∉ r.vls ∨
     ((unpack c).s = 1 ∧ (r.bcast = false ∨ (unpack c).vl = 0)) ∨
     (r.d = .unused ∧ (unpack c).rd ≠ 0) ∨ (r.a = .unused ∧ (unpack c).rs1 ≠ 0) ∨
     (r.b = .unused ∧ (unpack c).rs2 ≠ 0) ∨ (r.c = .unused ∧ (unpack c).rs3 ≠ 0) ∨
     (r.d = .group ∧ 31 < (unpack c).rd.toNat + (unpack c).vl.toNat) ∨
     (r.a = .group ∧ 31 < (unpack c).rs1.toNat + (unpack c).vl.toNat) ∨
     (r.b = .group ∧ (unpack c).s = 0 ∧ 31 < (unpack c).rs2.toNat + (unpack c).vl.toNat) ∨
     (r.c = .group ∧ (unpack c).s = 0 ∧ 31 < (unpack c).rs3.toNat + (unpack c).vl.toNat) ∨
     (r.a = .index ∧ 16 ≤ (unpack c).rs1.toNat))

/-- The commands of a list, one after the other: what a pseudo-instruction does (30_encoding.md R107). -/
def execAll : List Instr → State → Host.Outcome State Fault Refusal
  | [], s => .next s
  | i :: is, s =>
    match exec i s with
    | .next t => execAll is t
    | .fault f => .fault f
    | .refused r => .refused r

/-- The value of the pattern p of an IEEE 754 format with eb exponent bits and fb fraction bits; none for a NaN or
an infinity (40_conversion.md R139). -/
def binaryValue (eb fb p : Nat) : Option Rat :=
  let m := p % 2 ^ fb
  let x := p / 2 ^ fb % 2 ^ eb
  let sig := if x = 0 then m else 2 ^ fb + m
  let mag := ((sig * 2 ^ max x 1 : Nat) : Rat) / ((2 ^ (2 ^ (eb - 1) - 1 + fb) : Nat) : Rat)
  if x = 2 ^ eb - 1 then none else some (if p / 2 ^ (fb + eb) % 2 = 1 then -mag else mag)

/-- `trunc(q)`: rounding toward zero (00_scope.md R11). -/
def truncRat (q : Rat) : Int := if 0 ≤ q then ⌊q⌋ else ⌈q⌉

/-- The pattern p is `a / 2^F` rounded to nearest, ties to even: +0.0 for 0, and otherwise within half a unit in
the last place of the binade of a, with an even fraction on a tie (40_conversion.md R142, R143). -/
def RoundsToNearest (eb fb F : Nat) (a : Int) (p : Nat) : Prop :=
  (a = 0 → p = 0) ∧
  (a ≠ 0 → ∃ q, binaryValue eb fb p = some q ∧
    |q * 2 ^ F - (a : Rat)| * 2 ^ (fb + 1) ≤ 2 ^ a.natAbs.log2 ∧
    (|q * 2 ^ F - (a : Rat)| * 2 ^ (fb + 1) = 2 ^ a.natAbs.log2 → p % 2 = 0))

/-- r is the floor of the square root of m (42_sqrt_rcp.md R210). -/
def FloorRoot (m r : Int) : Prop := 0 ≤ r ∧ r * r ≤ m ∧ m < (r + 1) * (r + 1)

/-- The squared length of the group of n registers from base r (44_vector.md R306). -/
def squaredLength (w : Family) (s : State) (r : RegNum) (n : Nat) : Int :=
  wrap w.bits (asr (((List.range n).map fun i => opnd w s (comp r i) ^ 2).sum) (fracBits s.build w))

/-- The approximate square root of a value that is not negative, and 0 for a negative one, as the release build
has it (42_sqrt_rcp.md R211; 60_exceptions.md R344). -/
def rootOrZero (b : Build) (w : Family) (t : Tier) (a : Int) : Int := if a ≤ 0 then 0 else cfgSqrtPos b w t a

/-- The approximate reciprocal root of a positive value, and 0 for any other, as the release build has it
(42_sqrt_rcp.md R215; 60_exceptions.md R344). -/
def rsqrtOrZero (b : Build) (w : Family) (t : Tier) (a : Int) : Int := if a ≤ 0 then 0 else cfgRsqrtPos b w t a

/-! The command of tier t of each operation that has the three approximation tiers (30_encoding.md R93). -/

/-- DIV, DIV.FAST, DIV.FASTEST. -/
def divOf : Tier → Family → VLen → Bool → RegNum → RegNum → RegNum → Instr
  | .base => .div
  | .fast => .divFast
  | .fastest => .divFastest

/-- SQRT, SQRT.FAST, SQRT.FASTEST. -/
def sqrtOf : Tier → Family → RegNum → RegNum → Instr
  | .base => .sqrt
  | .fast => .sqrtFast
  | .fastest => .sqrtFastest

/-- RSQRT, RSQRT.FAST, RSQRT.FASTEST. -/
def rsqrtOf : Tier → Family → RegNum → RegNum → Instr
  | .base => .rsqrt
  | .fast => .rsqrtFast
  | .fastest => .rsqrtFastest

/-- RCP, RCP.FAST, RCP.FASTEST. -/
def rcpOf : Tier → Family → RegNum → RegNum → Instr
  | .base => .rcp
  | .fast => .rcpFast
  | .fastest => .rcpFastest

/-- EXP2, EXP2.FAST, EXP2.FASTEST. -/
def exp2Of : Tier → Family → RegNum → RegNum → Instr
  | .base => .exp2
  | .fast => .exp2Fast
  | .fastest => .exp2Fastest

/-- LOG2, LOG2.FAST, LOG2.FASTEST. -/
def log2Of : Tier → Family → RegNum → RegNum → Instr
  | .base => .log2
  | .fast => .log2Fast
  | .fastest => .log2Fastest

/-- EXP, EXP.FAST, EXP.FASTEST. -/
def expOf : Tier → Family → RegNum → RegNum → Instr
  | .base => .exp
  | .fast => .expFast
  | .fastest => .expFastest

/-- LOG, LOG.FAST, LOG.FASTEST. -/
def logOf : Tier → Family → RegNum → RegNum → Instr
  | .base => .log
  | .fast => .logFast
  | .fastest => .logFastest

/-- POW, POW.FAST, POW.FASTEST. -/
def powOf : Tier → Family → RegNum → RegNum → RegNum → Instr
  | .base => .pow
  | .fast => .powFast
  | .fastest => .powFastest

/-- SIN, SIN.FAST, SIN.FASTEST. -/
def sinOf : Tier → Family → RegNum → RegNum → Instr
  | .base => .sin
  | .fast => .sinFast
  | .fastest => .sinFastest

/-- COS, COS.FAST, COS.FASTEST. -/
def cosOf : Tier → Family → RegNum → RegNum → Instr
  | .base => .cos
  | .fast => .cosFast
  | .fastest => .cosFastest

/-- TAN, TAN.FAST, TAN.FASTEST. -/
def tanOf : Tier → Family → RegNum → RegNum → Instr
  | .base => .tan
  | .fast => .tanFast
  | .fastest => .tanFastest

/-- ATAN2, ATAN2.FAST, ATAN2.FASTEST. -/
def atan2Of : Tier → Family → RegNum → RegNum → RegNum → Instr
  | .base => .atan2
  | .fast => .atan2Fast
  | .fastest => .atan2Fastest

/-- ASIN, ASIN.FAST, ASIN.FASTEST. -/
def asinOf : Tier → Family → RegNum → RegNum → Instr
  | .base => .asin
  | .fast => .asinFast
  | .fastest => .asinFastest

/-- ACOS, ACOS.FAST, ACOS.FASTEST. -/
def acosOf : Tier → Family → RegNum → RegNum → Instr
  | .base => .acos
  | .fast => .acosFast
  | .fastest => .acosFastest

/-- LENGTH, LENGTH.FAST, LENGTH.FASTEST. -/
def lengthTierOf : Tier → Family → VLen → RegNum → RegNum → Instr
  | .base => .length
  | .fast => .lengthFast
  | .fastest => .lengthFastest

/-- NORM, NORM.FAST, NORM.FASTEST. -/
def normOf : Tier → Family → VLen → RegNum → RegNum → Instr
  | .base => .norm
  | .fast => .normFast
  | .fastest => .normFastest

/-- CLAMPLEN, CLAMPLEN.FAST, CLAMPLEN.FASTEST. -/
def clamplenOf : Tier → Family → VLen → RegNum → RegNum → RegNum → Instr
  | .base => .clamplen
  | .fast => .clamplenFast
  | .fastest => .clamplenFastest

end Sys2Proof.Machine
end

