-- ==== Sys2Proof/Certificates/Slice0/Obligations.lean ====
section
/-! DEFINITION. The statements about the FXU that the provers are asked to prove or refute. Each docstring names
the rules of spec/ it formalises. -/

open Sys2Proof Sys2Proof.Machine

/-! ## Encoding -/

/-- Decoding the word of a legal command gives the command back, with every operand at every value
(30_encoding.md R90, R98, R99). -/
def Obligations.DecodeOfEncode : Prop := ∀ i : Instr, i.wellFormed = true → decode (encode i) = .ok i

/-- The words that decode are exactly the legal ones, and a word that decodes is the word of the legal command it
decodes to: no two words stand for one command (30_encoding.md R90, R95, R99, R103). -/
def Obligations.EncodeOfDecode : Prop :=
  ∀ c : Word32, ((∃ i, decode c = .ok i) ↔ legal c = true) ∧
    ∀ i, decode c = .ok i → i.wellFormed = true ∧ encode i = c

/-- Every word with a reserved opcode, written to CMD while no fault is held, takes IllegalCommand, whatever its
other fields hold (30_encoding.md R102). -/
def Obligations.ReservedOpcodesFault : Prop :=
  ∀ (c : Word32) (s s' : State),
    ((unpack c).op.toNat ∈ [0x0F, 0x1B, 0x1C, 0x1D, 0x1E, 0x1F, 0x23, 0x24, 0x25, 0x26, 0x27, 0x33, 0x34, 0x35, 0x36,
      0x37, 0x3F]) →
    legal c = false ∧
    (NextAccess s (.write 0x010 4 c) s' → s.faultHeld = false →
      ∃ t, step s = .next t ∧ Faulted s' t c .illegalCommand 0 0 0)

/-- CONST with an index of 16 or more is an illegal word; with 14 or 15 it is legal and yields 0
(30_encoding.md R101). -/
def Obligations.ConstIndexRange : Prop :=
  ∀ (w : Family) (rd k : RegNum) (s : State),
    (16 ≤ k.toNat → legal (pack ⟨0x02, w.code, 0, 0, 0, rd, k, 0, 0⟩) = false) ∧
    (k = 14 ∨ k = 15 →
      legal (pack ⟨0x02, w.code, 0, 0, 0, rd, k, 0, 0⟩) = true ∧ ComputesOne (.const w rd k) s rd w 0)

/-- Words of the spec's own examples decode to the commands they are written for, and the assembler's text of the
four examples of 30_encoding.md R106 is the text given there, but that CONST's index is printed as its number, #4, where
the example writes the name #PI: that is the model's choice (assumption log 17), and #PI is listed as a name of 4. -/
def Obligations.ExampleWords : Prop :=
  decode 0x00000000 = .ok .nop ∧
  decode 0x00823010 = .ok (.add .q16 .x1 false 3 1 2) ∧
  decode 0x00824193 = .ok (.divPrecise .q16 .x1 false 4 1 2) ∧
  decode 0x01C08C52 = .ok (.mul .q32 .x3 true 8 0 7) ∧
  decode 0x00085002 = .ok (.const .q16 5 4) ∧
  decode 0x29008A19 = .ok (.clamp .q16 .x2 true 8 0 4 5) ∧
  decode 0x000221A0 = .ok (.sqrtPrecise .q16 2 1) ∧
  decode 0x0082302C = .ok (.pow .q16 3 1 2) ∧
  decode 0x0100853E = .ok (.clamplenFastest .q16 .x3 8 0 4) ∧
  asmText (.add .q16 .x1 false 3 1 2) = ("add.q16", ["r3", "r1", "r2"]) ∧
  asmText (.divPrecise .q16 .x1 false 4 1 2) = ("div.precise.q16", ["r4", "r1", "r2"]) ∧
  asmText (.mul .q32 .x3 true 8 0 7) = ("mul.v3.s.q32", ["r8", "r0", "r7"]) ∧
  asmText (.const .q16 5 4) = ("const.q16", ["r5", "#4"]) ∧ ("PI", (4 : RegNum)) ∈ romNames

/-! ## The step and the host window -/

/-- A CMD write of a word that decodes runs the decoded command, when no fault is held: the step is exec of it in
the state with that access taken off the host's sequence (10_state.md R33, R45; 60_exceptions.md R345). -/
def Obligations.StepRunsDecoded : Prop :=
  ∀ (s s' : State) (c : Word32) (i : Instr),
    NextAccess s (.write 0x010 4 c) s' → s.faultHeld = false → decode c = .ok i → step s = exec i s'

/-- An illegal word is a word with one of the listed causes, and written to CMD while no fault is held it takes
IllegalCommand, in both STRICT settings, with arg, comp and val 0, changing no general register and not CMDCNT
(60_exceptions.md R341). -/
def Obligations.IllegalWordsFault : Prop :=
  ∀ c : Word32, (legal c = false ↔ IllegalCause c) ∧
    (legal c = false → ∀ s s', NextAccess s (.write 0x010 4 c) s' → s.faultHeld = false →
      ∃ t, step s = .next t ∧ Faulted s' t c .illegalCommand 0 0 0)

/-- While a fault is held, every word written to CMD is discarded: DISCARD is set and nothing else changes
(60_exceptions.md R347). -/
def Obligations.FaultHeldDiscards : Prop :=
  ∀ (s s' : State) (c : Word32), NextAccess s (.write 0x010 4 c) s' → s.faultHeld = true →
    ∃ t, step s = .next t ∧ t.discard = true ∧ t.faultHeld = true ∧ t = { s' with status := t.status } ∧
      ∀ k : Nat, 2 ≤ k → t.status.getLsbD k = s.status.getLsbD k

/-- The only ways out of the fault-held state are a CTRL write with FAULT_CLR or with SOFT_RST and the reset
input; FAULT_CLR clears FAULT and DISCARD, takes IRQ_EN as written, and keeps the capture registers
(60_exceptions.md R348; 10_state.md R44). -/
def Obligations.WaysOutOfFaultHeld : Prop :=
  (∀ s t : State, step s = .next t → s.faultHeld = true → t.faultHeld = false →
    ∃ rest, (∃ v : Word32, (v.getLsbD 1 = true ∨ v.getLsbD 2 = true) ∧
        s.pending = .access (.write 0x00C 4 v) :: rest) ∨
      s.pending = .resetInput :: rest ∨ ∃ a, s.pending = .resetDuring a :: rest) ∧
  (∀ (s s' : State) (v : Word32), NextAccess s (.write 0x00C 4 v) s' → v.getLsbD 1 = true → v.getLsbD 2 = false →
    ∃ t, step s = .next t ∧ t.faultHeld = false ∧ t.discard = false ∧ t.irqEn = v.getLsbD 0 ∧
      t = { s' with status := t.status, ctrl := t.ctrl })

/-- Accesses that are not 32 bits wide, and 32-bit accesses at an offset that is no multiple of 4, are refused
(20_memory.md R61, R62). -/
def Obligations.OtherAccessesRefused : Prop :=
  ∀ (s : State) (off size : Nat) (v : Word32) (rest : List HostEvent),
    (s.pending = .access (.read off size) :: rest ∨ s.pending = .access (.write off size v) :: rest) →
    (size ≠ 4 → step s = .refused .accessSize) ∧
    (size = 4 → off % 4 ≠ 0 → step s = .refused .misaligned)

/-- The machine stops only at an access outside the contract: every command, and every other event, gives a next
state (10_state.md R45; 20_memory.md R71). The fault for an offset past the 1 KiB window is the model's choice (assumption log 9); an empty sequence
leaves the state as it is (assumption log 1), and a reset that strikes an access outside the contract is taken
(assumption log 10). -/
def Obligations.EveryAdmittedEventCompletes : Prop :=
  (∀ (i : Instr) (s : State), ∃ t, exec i s = .next t) ∧
  (∀ s : State, s.pending = [] → step s = .next s) ∧
  (∀ (s : State) (off : Nat) (v : Word32) (rest : List HostEvent), off % 4 = 0 → off < 0x400 →
    (s.pending = .access (.read off 4) :: rest ∨ s.pending = .access (.write off 4 v) :: rest) →
    ∃ t, step s = .next t) ∧
  (∀ (s : State) (rest : List HostEvent) (a : HostAccess),
    (s.pending = .resetInput :: rest ∨ s.pending = .resetDuring a :: rest) → ∃ t, step s = .next t) ∧
  (∀ (s : State) (off : Nat) (v : Word32) (rest : List HostEvent), off % 4 = 0 → 0x400 ≤ off →
    (s.pending = .access (.read off 4) :: rest ∨ s.pending = .access (.write off 4 v) :: rest) →
    step s = .fault .outsideWindow)

/-- Every event of the host's sequence is taken in turn, and cmdidx advances by one for every access
(10_state.md R33). -/
def Obligations.SequenceAdvances : Prop :=
  ∀ (s t : State) (e : HostEvent) (rest : List HostEvent), s.pending = e :: rest → step s = .next t →
    t.pending = rest ∧ ∀ a, e = .access a → t.cmdidx = s.cmdidx + 1

/-- What a read returns at each offset of the control and status registers, without side effect, and that writes to
the read-only ones are ignored (10_state.md R39, R41 to R49; 20_memory.md R65). -/
def Obligations.StatusRegisterAccess : Prop :=
  ∀ s : State,
    ReadsAs s 0x000 0x46585501 ∧
    ReadsAs s 0x004 (BitVec.ofNat 32 ((if s.build.strict then 1 else 0) + 2 ^ 8 * s.build.frac64.bits + 2 ^ 16 * 32 +
      2 ^ 24)) ∧
    ReadsAs s 0x008 s.status ∧ ReadsAs s 0x00C s.ctrl ∧ ReadsAs s 0x010 0 ∧ ReadsAs s 0x014 s.cmdcnt ∧
    ReadsAs s 0x018 s.faultCmd ∧ ReadsAs s 0x01C s.faultInfo ∧ ReadsAs s 0x020 s.faultValLo ∧
    ReadsAs s 0x024 s.faultValHi ∧
    ∀ (off : Nat) (v : Word32), off ∈ [0x000, 0x004, 0x014, 0x018, 0x01C, 0x020, 0x024] → IgnoresWrite s off v

/-- The general registers through the window: each half reads as its bits, and a write changes only the addressed
half, at every time (20_memory.md R64). -/
def Obligations.RegisterHalves : Prop :=
  ∀ (s : State) (i : RegNum),
    ReadsAs s (0x100 + 8 * i.toNat) ((s.readReg i).extractLsb' 0 32) ∧
    ReadsAs s (0x104 + 8 * i.toNat) ((s.readReg i).extractLsb' 32 32) ∧
    (∀ (s' : State) (v : Word32), NextAccess s (.write (0x100 + 8 * i.toNat) 4 v) s' →
      ∃ t, step s = .next t ∧ t = { s' with regs := t.regs } ∧
        t.readReg i = (s.readReg i).extractLsb' 32 32 ++ v ∧ ∀ q, q ≠ i → t.readReg q = s.readReg q) ∧
    (∀ (s' : State) (v : Word32), NextAccess s (.write (0x104 + 8 * i.toNat) 4 v) s' →
      ∃ t, step s = .next t ∧ t = { s' with regs := t.regs } ∧
        t.readReg i = v ++ (s.readReg i).extractLsb' 0 32 ∧ ∀ q, q ≠ i → t.readReg q = s.readReg q)

/-- An unmapped offset reads 0 and ignores writes, with no other effect and no fault (20_memory.md R66). -/
def Obligations.UnmappedOffsets : Prop :=
  ∀ (s : State) (off : Nat) (v : Word32), off % 4 = 0 →
    ((0x028 ≤ off ∧ off ≤ 0x0FC) ∨ (0x200 ≤ off ∧ off ≤ 0x3FC)) → ReadsAs s off 0 ∧ IgnoresWrite s off v

/-- A write to STATUS clears DISCARD if its bit 1 is set and has no other effect. A write to CTRL: SOFT_RST resets and
nothing else of the write takes effect; otherwise IRQ_EN takes bit 0, the other bits read 0 after it, and without
FAULT_CLR nothing else changes (10_state.md R43, R44). -/
def Obligations.StatusAndCtrlWrites : Prop :=
  (∀ (s s' : State) (v : Word32), NextAccess s (.write 0x008 4 v) s' →
    (v.getLsbD 1 = false → step s = .next s') ∧
    (v.getLsbD 1 = true → ∃ t, step s = .next t ∧ t = { s' with status := t.status } ∧ t.discard = false ∧
      ∀ k : Nat, k ≠ 1 → t.status.getLsbD k = s.status.getLsbD k)) ∧
  (∀ (s s' : State) (v : Word32), NextAccess s (.write 0x00C 4 v) s' →
    (v.getLsbD 2 = true → ∃ t, step s = .next t ∧ ResetValues t) ∧
    (v.getLsbD 2 = false → ∃ t, step s = .next t ∧ t.irqEn = v.getLsbD 0 ∧ (∀ k : Nat, 1 ≤ k → t.ctrl.getLsbD k = false) ∧
      t = { s' with status := t.status, ctrl := t.ctrl } ∧ (v.getLsbD 1 = false → t.status = s.status)))

/-- The reset input, whatever it strikes, and a soft reset give every register its reset value from every state;
ID, CFG, the build constants and the ROM are unchanged (10_state.md R52; 70_reset_and_hazards.md R380, R381, R383). That
a reset is taken also where it strikes an access outside the contract is the model's choice (assumption log 10). -/
def Obligations.ResetFromEveryState : Prop :=
  ∀ (s : State) (rest : List HostEvent),
    (s.pending = .resetInput :: rest ∨ (∃ a, s.pending = .resetDuring a :: rest) ∨
      (∃ v : Word32, v.getLsbD 2 = true ∧ s.pending = .access (.write 0x00C 4 v) :: rest)) →
    ∃ t, step s = .next t ∧ ResetValues t ∧ t.build = s.build ∧ windowRead t 0x000 = 0x46585501 ∧
      windowRead t 0x004 = windowRead s 0x004

/-- The machine after reset: every register has the value of the spec's table, ID reads its constant and irq is
deasserted (10_state.md R52). CFG reads its build constant, which is 0x01202000 because State.reset has the default
build: that is the model's choice (assumption log 3). -/
def Obligations.ResetState : Prop :=
  ResetValues State.reset ∧ windowRead State.reset 0x000 = 0x46585501 ∧ windowRead State.reset 0x004 = 0x01202000

/-- STRICT, FRAC64 and the constant ROM never change, and STRICT is bit 0 of what a read of CFG returns
(10_state.md R38, R40). -/
def Obligations.BuildNeverChanges : Prop :=
  ∀ s t : State, step s = .next t → t.build = s.build ∧
    ∀ rest, s.pending = .access (.read 0x004 4) :: rest →
      ∃ v : Word32, t.reads = v :: s.reads ∧ v.getLsbD 0 = s.build.strict

/-- The interrupt output is STATUS.FAULT and CTRL.IRQ_EN. It rises at fault entry with IRQ_EN set and when IRQ_EN is
written 1 during a held fault, and it is low after FAULT_CLR, after IRQ_EN is written 0 and after a reset; no other
event changes it (60_exceptions.md R349). -/
def Obligations.IrqChanges : Prop :=
  ∀ s t : State, step s = .next t →
    t.irq = (t.faultHeld && t.irqEn) ∧
    (∀ c rest, s.pending = .access (.write 0x010 4 c) :: rest → s.faultHeld = false → t.faultHeld = true →
      s.irqEn = true → t.irq = true) ∧
    (∀ v rest, s.pending = .access (.write 0x00C 4 v) :: rest → s.faultHeld = true → v.getLsbD 0 = true →
      v.getLsbD 1 = false → v.getLsbD 2 = false → t.irq = true) ∧
    (∀ v rest, s.pending = .access (.write 0x00C 4 v) :: rest → v.getLsbD 1 = true ∨ v.getLsbD 0 = false →
      t.irq = false) ∧
    (ResetNext s → t.irq = false) ∧
    (s.irq = false → t.irq = true →
      (∃ c rest, s.pending = .access (.write 0x010 4 c) :: rest ∧ s.irqEn = true ∧ s.faultHeld = false ∧
        t.faultHeld = true) ∨
      ∃ v rest, s.pending = .access (.write 0x00C 4 v) :: rest ∧ s.faultHeld = true ∧ v.getLsbD 0 = true ∧
        v.getLsbD 1 = false ∧ v.getLsbD 2 = false) ∧
    (s.irq = true → t.irq = false →
      (∃ v rest, s.pending = .access (.write 0x00C 4 v) :: rest ∧ (v.getLsbD 1 = true ∨ v.getLsbD 0 = false)) ∨
      ResetNext s)

/-! ## Invariants and whole-machine rules -/

/-- Every step keeps the condition on the control, status and capture registers: reserved bits 0, DISCARD only
with FAULT, and the capture registers describing the most recent fault or none (10_state.md R43, R44, R48;
60_exceptions.md R345, R347, R348, R352). -/
def Obligations.CaptureInvariantKept : Prop := ∀ s t : State, CaptureInv s → step s = .next t → CaptureInv t

/-- The condition holds at reset (10_state.md R48, R52). -/
def Obligations.CaptureInvariantAtReset : Prop := CaptureInv State.reset

/-- What a legal command may change: the registers of its destination, CMDCNT, STATUS.FAULT and the capture
registers, and the draw counter for FROMF and FROMD. Either it is counted and no fault is taken, or it faults, is
not counted and writes no register (10_state.md R34, R46; 60_exceptions.md R345, R346). -/
def Obligations.CommandFrame : Prop :=
  ∀ (i : Instr) (s t : State), i.wellFormed = true → exec i s = .next t →
    KeepsPort s t ∧ (drawsFloat i = false → t.draws = s.draws) ∧
    ((t.cmdcnt = s.cmdcnt + 1 ∧ KeepsCapture s t ∧
        ∀ q, (∀ k < (destination i).2, q ≠ comp (destination i).1 k) → t.readReg q = s.readReg q) ∨
      (s.build.strict = true ∧ ∃ arg cmp val, domainArg (unpack (encode i)).op = some arg ∧
        Faulted s t (encode i) .domainFault arg cmp val))

/-- In a release build a legal command never faults: it completes, is counted, and no status bit or capture
register changes (60_exceptions.md R344). -/
def Obligations.ReleaseNeverFaults : Prop :=
  ∀ (i : Instr) (s : State), i.wellFormed = true → s.build.strict = false →
    ∃ t, exec i s = .next t ∧ t.cmdcnt = s.cmdcnt + 1 ∧ KeepsCapture s t ∧ KeepsPort s t

/-- CMDCNT counts exactly the commands that complete without fault: a step adds one when a CMD write executes
without a fault, sets it to 0 at a reset, and leaves it alone at every other event, a command that faults and a
discarded command among them (10_state.md R46; 70_reset_and_hazards.md R380, R381). -/
def Obligations.CmdcntCounts : Prop :=
  ∀ s t : State, step s = .next t →
    (t.cmdcnt = s.cmdcnt + 1 ∧ s.faultHeld = false ∧ t.faultHeld = false ∧
      ∃ c rest, legal c = true ∧ s.pending = .access (.write 0x010 4 c) :: rest) ∨
    (t.cmdcnt = s.cmdcnt ∧ ¬ ResetNext s ∧
      ∀ c rest, s.pending = .access (.write 0x010 4 c) :: rest → t.faultHeld = true) ∨
    (t.cmdcnt = 0 ∧ ResetNext s)

/-- A command's results depend on the command, the registers, the build and the draw counter only: in two states
that agree on these, it writes the same registers and takes the same fault (00_scope.md R20). The draw counter, on
which the out-of-range result of FROMF and FROMD may depend, is the model's choice (assumption log 6). -/
def Obligations.CommandsAreDeterministic : Prop :=
  ∀ (i : Instr) (s u p q : State), s.build = u.build → s.draws = u.draws → (∀ r, s.readReg r = u.readReg r) →
    exec i s = .next p → exec i u = .next q →
    (∀ r, p.readReg r = q.readReg r) ∧ p.cmdcnt - s.cmdcnt = q.cmdcnt - u.cmdcnt ∧
    (p.cmdcnt = s.cmdcnt → p.faultInfo = q.faultInfo ∧ p.faultVal = q.faultVal ∧ p.faultCmd = q.faultCmd)

/-- A command with W = 0 reads only the low 32 bits of its sources: in two states whose registers agree on them,
it writes the same results and takes the same fault. NARROW and FROMD read 64 bits by their own rules
(10_state.md R31; 40_conversion.md R134, R141; assumption log 14). -/
def Obligations.HighWordsDoNotMatter : Prop :=
  ∀ (i : Instr) (s u p q : State), i.wellFormed = true → i.fields.w = 0 → i.fields.op ≠ 0x04 → i.fields.op ≠ 0x0A →
    s.build = u.build → s.draws = u.draws →
    (∀ r, (s.readReg r).extractLsb' 0 32 = (u.readReg r).extractLsb' 0 32) →
    exec i s = .next p → exec i u = .next q →
    p.cmdcnt - s.cmdcnt = q.cmdcnt - u.cmdcnt ∧
    (p.cmdcnt ≠ s.cmdcnt → ∀ k < (destination i).2,
      p.readReg (comp (destination i).1 k) = q.readReg (comp (destination i).1 k)) ∧
    (p.cmdcnt = s.cmdcnt → p.faultInfo = q.faultInfo ∧ p.faultVal = q.faultVal)

/-- A componentwise command computes in each component what the scalar command computes on that component's
operands, when neither faults (44_vector.md R300, R321). -/
def Obligations.ComponentsAreScalarCommands : Prop :=
  ∀ (w : Family) (vl : VLen) (sb : Bool) (rd rs1 rs2 rs3 : RegNum) (k : Nat) (s p q : State),
    k < vl.count → p.cmdcnt = s.cmdcnt + 1 → q.cmdcnt = s.cmdcnt + 1 →
    ∀ (vector scalar : Instr), vector.wellFormed = true →
      (vector, scalar) ∈ [
        (Instr.mov w vl rd rs1, Instr.mov w .x1 rd (comp rs1 k)),
        (.widen vl rd rs1, .widen .x1 rd (comp rs1 k)),
        (.narrow vl rd rs1, .narrow .x1 rd (comp rs1 k)),
        (.add w vl sb rd rs1 rs2, .add w .x1 false rd (comp rs1 k) (bcomp sb rs2 k)),
        (.sub w vl sb rd rs1 rs2, .sub w .x1 false rd (comp rs1 k) (bcomp sb rs2 k)),
        (.mul w vl sb rd rs1 rs2, .mul w .x1 false rd (comp rs1 k) (bcomp sb rs2 k)),
        (.div w vl sb rd rs1 rs2, .div w .x1 false rd (comp rs1 k) (bcomp sb rs2 k)),
        (.divFast w vl sb rd rs1 rs2, .divFast w .x1 false rd (comp rs1 k) (bcomp sb rs2 k)),
        (.divFastest w vl sb rd rs1 rs2, .divFastest w .x1 false rd (comp rs1 k) (bcomp sb rs2 k)),
        (.divPrecise w vl sb rd rs1 rs2, .divPrecise w .x1 false rd (comp rs1 k) (bcomp sb rs2 k)),
        (.mod w vl sb rd rs1 rs2, .mod w .x1 false rd (comp rs1 k) (bcomp sb rs2 k)),
        (.clamp w vl sb rd rs1 rs2 rs3, .clamp w .x1 false rd (comp rs1 k) (bcomp sb rs2 k) (bcomp sb rs3 k)),
        (.lerp w vl rd rs1 rs2 rs3, .lerp w .x1 rd (comp rs1 k) (comp rs2 k) rs3)] →
      exec vector s = .next p → exec scalar s = .next q → p.readReg (comp rd k) = q.readReg rd

/-! ## Data movement and conversion -/

/-- NOP, MOV, CONST, WIDEN and NARROW complete: NOP writes nothing, MOV copies the family-W values of its group, CONST
writes the ROM entry, WIDEN and NARROW shift the values of their groups (40_conversion.md R130 to R134). -/
def Obligations.MoveResults : Prop :=
  ∀ (w : Family) (vl : VLen) (rd rs1 k : RegNum) (s : State),
    Computes .nop s rd 0 (fun _ => 0) ∧
    ((Instr.mov w vl rd rs1).wellFormed = true →
      Computes (.mov w vl rd rs1) s rd vl.count fun i => result w (opnd w s (comp rs1 i))) ∧
    (k.toNat < 16 → ComputesOne (.const w rd k) s rd w (romEntry s.build w k.toNat)) ∧
    ((Instr.widen vl rd rs1).wellFormed = true →
      Computes (.widen vl rd rs1) s rd vl.count fun i =>
        result .q32 (opnd .q16 s (comp rs1 i) * 2 ^ (s.build.frac64.bits - 16))) ∧
    ((Instr.narrow vl rd rs1).wellFormed = true →
      Computes (.narrow vl rd rs1) s rd vl.count fun i =>
        result .q16 (wrap 32 (asr (opnd .q32 s (comp rs1 i)) (s.build.frac64.bits - 16))))

/-- The constant ROM's entries 0 to 3, 10 to 12, 14 and 15, which are exact by definition, for every build, and the
default raw values of the others; with FRAC64 = 16, entries 1 to 9 and 13 of family 64 are the values of family 32
(10_state.md R36). -/
def Obligations.ConstantRom : Prop :=
  (∀ (b : Build) (w : Family), romEntry b w 0 = 0 ∧ romEntry b w 1 = 2 ^ fracBits b w ∧
    2 * romEntry b w 2 = romEntry b w 1 ∧ romEntry b w 3 = -romEntry b w 1 ∧ romEntry b w 10 = 2 ^ (w.bits - 1) - 1 ∧
    romEntry b w 11 = -2 ^ (w.bits - 1) ∧ romEntry b w 12 = 1 ∧ romEntry b w 14 = 0 ∧ romEntry b w 15 = 0) ∧
  ([4, 5, 6, 7, 8, 9, 13].map (romEntry Config.defaultBuild .q16)) =
    [205887, 102944, 411775, 45426, 94548, 92682, 178145] ∧
  ([4, 5, 6, 7, 8, 9, 13].map (romEntry Config.defaultBuild .q32)) =
    [13493037705, 6746518852, 26986075409, 2977044472, 6196328019, 6074001000, 11674931555] ∧
  (∀ b : Build, b.frac64 = .f16 → ∀ k ∈ [1, 2, 3, 4, 5, 6, 7, 8, 9, 13], romEntry b .q32 k = romEntry b .q16 k)

/-- FROMINT, FLOOR, CEIL and ROUND complete with the values of their rules (40_conversion.md R135 to R138). -/
def Obligations.IntegerConversionResults : Prop :=
  ∀ (w : Family) (rd rs1 : RegNum) (s : State),
    ComputesOne (.fromint w rd rs1) s rd w (wrap w.bits (shl (opnd w s rs1) (fracBits s.build w))) ∧
    ComputesOne (.floor w rd rs1) s rd w (asr (opnd w s rs1) (fracBits s.build w)) ∧
    ComputesOne (.ceil w rd rs1) s rd w
      (asr (wrap w.bits (opnd w s rs1 + 2 ^ fracBits s.build w - 1)) (fracBits s.build w)) ∧
    ComputesOne (.round w rd rs1) s rd w
      (asr (wrap w.bits (opnd w s rs1 + 2 ^ (fracBits s.build w - 1))) (fracBits s.build w))

/-- Where the bias does not wrap, CEIL is the least integer not below the value and ROUND the nearest integer, ties
upward (40_conversion.md R137, R138). -/
def Obligations.CeilAndRoundAreNearest : Prop :=
  ∀ (w : Family) (rd rs1 : RegNum) (s t : State),
    (opnd w s rs1 + 2 ^ fracBits s.build w - 1 ≤ maxRaw w → exec (.ceil w rd rs1) s = .next t →
      opnd w s rs1 ≤ opnd w t rd * 2 ^ fracBits s.build w ∧
      opnd w t rd * 2 ^ fracBits s.build w < opnd w s rs1 + 2 ^ fracBits s.build w) ∧
    (opnd w s rs1 + 2 ^ (fracBits s.build w - 1) ≤ maxRaw w → exec (.round w rd rs1) s = .next t →
      2 * opnd w t rd * 2 ^ fracBits s.build w ≤ 2 * opnd w s rs1 + 2 ^ fracBits s.build w ∧
      2 * opnd w s rs1 + 2 ^ fracBits s.build w < 2 * (opnd w t rd + 1) * 2 ^ fracBits s.build w)

/-- FROMF and FROMD of a finite float whose truncated value is in range complete with that value
(40_conversion.md R139, R140, R141). -/
def Obligations.FromFloatInRange : Prop :=
  ∀ (w : Family) (rd rs1 : RegNum) (s : State) (q : Rat),
    inRaw w (truncRat (q * 2 ^ fracBits s.build w)) = true →
    (binaryValue 8 23 ((s.readReg rs1).extractLsb' 0 32).toNat = some q →
      ComputesOne (.fromf w rd rs1) s rd w (truncRat (q * 2 ^ fracBits s.build w))) ∧
    (binaryValue 11 52 (s.readReg rs1).toNat = some q →
      ComputesOne (.fromd w rd rs1) s rd w (truncRat (q * 2 ^ fracBits s.build w)))

/-- FROMF and FROMD of a NaN, an infinity or a value out of range complete too: the result is the draw FLTCVT_OOR,
which nothing constrains, and one draw is taken (40_conversion.md R140, R141; the counter is the model's choice,
assumption log 6). -/
def Obligations.FromFloatOutOfRange : Prop :=
  ∀ (w : Family) (rd rs1 : RegNum) (s : State),
    ((∀ q, binaryValue 8 23 ((s.readReg rs1).extractLsb' 0 32).toNat = some q →
        inRaw w (truncRat (q * 2 ^ fracBits s.build w)) = false) →
      ∃ t, exec (.fromf w rd rs1) s = .next t ∧ t.draws = s.draws + 1 ∧
        Completed s t rd 1 fun _ => result w (Config.fltcvtOor s.draws w).toInt) ∧
    ((∀ q, binaryValue 11 52 (s.readReg rs1).toNat = some q →
        inRaw w (truncRat (q * 2 ^ fracBits s.build w)) = false) →
      ∃ t, exec (.fromd w rd rs1) s = .next t ∧ t.draws = s.draws + 1 ∧
        Completed s t rd 1 fun _ => result w (Config.fltcvtOor s.draws w).toInt)

/-- TOF and TOD complete with the nearest pattern, ties to even, TOF's zero-extended; the value is exact below 2^24
and below 2^53 (40_conversion.md R142, R143). -/
def Obligations.ToFloatResults : Prop :=
  ∀ (w : Family) (rd rs1 : RegNum) (s : State),
    (∃ p : BitVec 32, Computes (.tof w rd rs1) s rd 1 (fun _ => p.setWidth 64) ∧
      RoundsToNearest 8 23 (fracBits s.build w) (opnd w s rs1) p.toNat ∧
      ((opnd w s rs1).natAbs < 2 ^ 24 →
        binaryValue 8 23 p.toNat = some ((opnd w s rs1 : Rat) / 2 ^ fracBits s.build w))) ∧
    (∃ p : BitVec 64, Computes (.tod w rd rs1) s rd 1 (fun _ => p) ∧
      RoundsToNearest 11 52 (fracBits s.build w) (opnd w s rs1) p.toNat ∧
      ((opnd w s rs1).natAbs < 2 ^ 53 →
        binaryValue 11 52 p.toNat = some ((opnd w s rs1 : Rat) / 2 ^ fracBits s.build w)))

/-- FROMF then TOF in family 32, of a float in the representable range, -32768.0 included: the value comes back within one unit of the
last place, and exactly from 2^8 on (40_conversion.md R144). -/
def Obligations.FloatRoundTrip : Prop :=
  ∀ (rd rs1 rd2 : RegNum) (s t u : State) (v : Rat),
    binaryValue 8 23 ((s.readReg rs1).extractLsb' 0 32).toNat = some v → -2 ^ 15 ≤ v → v < 2 ^ 15 →
    exec (.fromf .q16 rd rs1) s = .next t → exec (.tof .q16 rd2 rd) t = .next u →
    ∃ v', binaryValue 8 23 ((u.readReg rd2).extractLsb' 0 32).toNat = some v' ∧
      |v - v'| * 2 ^ 16 < 1 ∧ (2 ^ 8 ≤ |v| → v' = v)

/-! ## Scalar arithmetic -/

/-- ADD, SUB and MUL complete, in each component with the wrapped sum, difference and floored product
(41_scalar_arith.md R170, R171, R172). -/
def Obligations.AddSubMulResults : Prop :=
  ∀ (w : Family) (vl : VLen) (sb : Bool) (rd rs1 rs2 : RegNum) (s : State),
    ((Instr.add w vl sb rd rs1 rs2).wellFormed = true →
      Computes (.add w vl sb rd rs1 rs2) s rd vl.count fun i =>
        result w (wrap w.bits (opnd w s (comp rs1 i) + opnd w s (bcomp sb rs2 i)))) ∧
    ((Instr.sub w vl sb rd rs1 rs2).wellFormed = true →
      Computes (.sub w vl sb rd rs1 rs2) s rd vl.count fun i =>
        result w (wrap w.bits (opnd w s (comp rs1 i) - opnd w s (bcomp sb rs2 i)))) ∧
    ((Instr.mul w vl sb rd rs1 rs2).wellFormed = true →
      Computes (.mul w vl sb rd rs1 rs2) s rd vl.count fun i =>
        result w (wrap w.bits (asr (opnd w s (comp rs1 i) * opnd w s (bcomp sb rs2 i)) (fracBits s.build w))))

/-- DIV.PRECISE, MOD and RATIO complete, in a release build always and in a strict build when no component is outside
the domain: the truncated quotient or remainder, and 0 in a component outside the domain (41_scalar_arith.md R173,
R178, R184; 60_exceptions.md R344). -/
def Obligations.ExactQuotientResults : Prop :=
  ∀ (w : Family) (vl : VLen) (sb : Bool) (rd rs1 rs2 : RegNum) (s : State),
    ((Instr.divPrecise w vl sb rd rs1 rs2).wellFormed = true →
      (s.build.strict = false ∨ ∀ i < vl.count, opnd w s (bcomp sb rs2 i) ≠ 0 ∧ opnd w s (bcomp sb rs2 i) ≠ minRaw w) →
      Computes (.divPrecise w vl sb rd rs1 rs2) s rd vl.count fun i => result w
        (if opnd w s (bcomp sb rs2 i) = 0 ∨ opnd w s (bcomp sb rs2 i) = minRaw w then 0
         else wrap w.bits (truncDiv (shl (opnd w s (comp rs1 i)) (fracBits s.build w)) (opnd w s (bcomp sb rs2 i))))) ∧
    ((Instr.mod w vl sb rd rs1 rs2).wellFormed = true →
      (s.build.strict = false ∨ ∀ i < vl.count, opnd w s (bcomp sb rs2 i) ≠ 0) →
      Computes (.mod w vl sb rd rs1 rs2) s rd vl.count fun i => result w
        (if opnd w s (bcomp sb rs2 i) = 0 then 0
         else opnd w s (comp rs1 i) - opnd w s (bcomp sb rs2 i) *
           truncDiv (opnd w s (comp rs1 i)) (opnd w s (bcomp sb rs2 i)))) ∧
    (s.build.strict = false ∨ opnd w s rs2 ≠ 0 →
      ComputesOne (.ratio w rd rs1 rs2) s rd w
        (if opnd w s rs2 = 0 then 0
         else wrap w.bits (truncDiv (shl (opnd w s rs1) (fracBits s.build w)) (opnd w s rs2))))

/-- DIV, DIV.FAST and DIV.FASTEST complete, in a release build always and in a strict build when no component is
outside the domain: the unit's table for the denominator's absolute value, its sign exact, and 0 outside the
domain (41_scalar_arith.md R174 to R177). -/
def Obligations.DivTierResults : Prop :=
  ∀ (t : Tier) (w : Family) (vl : VLen) (sb : Bool) (rd rs1 rs2 : RegNum) (s : State),
    (divOf t w vl sb rd rs1 rs2).wellFormed = true →
    (s.build.strict = false ∨ ∀ i < vl.count, opnd w s (bcomp sb rs2 i) ≠ 0 ∧ opnd w s (bcomp sb rs2 i) ≠ minRaw w) →
    Computes (divOf t w vl sb rd rs1 rs2) s rd vl.count fun i => result w
      (if opnd w s (bcomp sb rs2 i) = 0 ∨ opnd w s (bcomp sb rs2 i) = minRaw w then 0
       else if 0 < opnd w s (bcomp sb rs2 i) then
         cfgDivPos s.build w t (opnd w s (comp rs1 i)) (opnd w s (bcomp sb rs2 i))
       else wrap w.bits (-cfgDivPos s.build w t (opnd w s (comp rs1 i)) (-opnd w s (bcomp sb rs2 i))))

/-- NEG, ABS, CMP, MIN and MAX complete with the values of their rules (41_scalar_arith.md R179 to R183). -/
def Obligations.SignAndOrderResults : Prop :=
  ∀ (w : Family) (rd rs1 rs2 : RegNum) (s : State),
    ComputesOne (.neg w rd rs1) s rd w (wrap w.bits (-opnd w s rs1)) ∧
    ComputesOne (.abs w rd rs1) s rd w (if opnd w s rs1 < 0 then wrap w.bits (-opnd w s rs1) else opnd w s rs1) ∧
    ComputesOne (.cmp w rd rs1 rs2) s rd w
      (if opnd w s rs1 < opnd w s rs2 then -1 else if opnd w s rs1 = opnd w s rs2 then 0 else 1) ∧
    ComputesOne (.min w rd rs1 rs2) s rd w (min (opnd w s rs1) (opnd w s rs2)) ∧
    ComputesOne (.max w rd rs1 rs2) s rd w (max (opnd w s rs1) (opnd w s rs2))

/-- Where the quotient does not wrap, DIV.PRECISE deviates from the true quotient by less than one unit of the last
place (41_scalar_arith.md R186). -/
def Obligations.DivPreciseWithinOneUlp : Prop :=
  ∀ (w : Family) (rd rs1 rs2 : RegNum) (s t : State),
    opnd w s rs2 ≠ 0 → opnd w s rs2 ≠ minRaw w →
    inRaw w (truncDiv (shl (opnd w s rs1) (fracBits s.build w)) (opnd w s rs2)) = true →
    exec (.divPrecise w .x1 false rd rs1 rs2) s = .next t →
    |(opnd w t rd : Rat) - (opnd w s rs1 : Rat) * 2 ^ fracBits s.build w / (opnd w s rs2 : Rat)| < 1

/-! ## Roots, reciprocals and transcendentals -/

/-- SQRT.PRECISE completes, in a release build always and in a strict build for a >= 0: the floor of the exact
root, and 0 for a negative operand (42_sqrt_rcp.md R210). -/
def Obligations.SqrtPreciseResult : Prop :=
  ∀ (w : Family) (rd rs1 : RegNum) (s : State), (s.build.strict = false ∨ 0 ≤ opnd w s rs1) →
    ∃ r, ComputesOne (.sqrtPrecise w rd rs1) s rd w r ∧ (opnd w s rs1 < 0 → r = 0) ∧
      (0 ≤ opnd w s rs1 → FloorRoot (shl (opnd w s rs1) (fracBits s.build w)) r ∧ r ≤ maxRaw w)

/-- SQRT, RSQRT and RCP complete in each tier, in a release build always and in a strict build inside the domain:
the unit's table, RCP's sign exact, SQRT 0 at 0, and 0 outside the domain (42_sqrt_rcp.md R211 to R222). -/
def Obligations.RootTierResults : Prop :=
  ∀ (t : Tier) (w : Family) (rd rs1 : RegNum) (s : State),
    (s.build.strict = false ∨ 0 ≤ opnd w s rs1 →
      ComputesOne (sqrtOf t w rd rs1) s rd w (rootOrZero s.build w t (opnd w s rs1))) ∧
    (s.build.strict = false ∨ 0 < opnd w s rs1 →
      ComputesOne (rsqrtOf t w rd rs1) s rd w (rsqrtOrZero s.build w t (opnd w s rs1))) ∧
    (s.build.strict = false ∨ (opnd w s rs1 ≠ 0 ∧ opnd w s rs1 ≠ minRaw w) →
      ComputesOne (rcpOf t w rd rs1) s rd w
        (if opnd w s rs1 = 0 ∨ opnd w s rs1 = minRaw w then 0
         else if 0 < opnd w s rs1 then cfgRcpPos s.build w t (opnd w s rs1)
         else wrap w.bits (-cfgRcpPos s.build w t (-opnd w s rs1))))

/-- SQRT.PRECISE is non-decreasing on the non-negative operands, and in family 32 SQRT.PRECISE of MUL(x, x) is |x| or
|x| - 1 for |x| from 1.0 up to 11863283 (42_sqrt_rcp.md R223, R224). -/
def Obligations.SqrtPreciseLaws : Prop :=
  (∀ (w : Family) (rd rs1 : RegNum) (s u p q : State), s.build = u.build → 0 ≤ opnd w s rs1 →
    opnd w s rs1 ≤ opnd w u rs1 → exec (.sqrtPrecise w rd rs1) s = .next p → exec (.sqrtPrecise w rd rs1) u = .next q →
    opnd w p rd ≤ opnd w q rd) ∧
  (∀ (rx rm rd : RegNum) (s t u : State), 2 ^ 16 ≤ |opnd .q16 s rx| → |opnd .q16 s rx| ≤ 11863283 →
    exec (.mul .q16 .x1 false rm rx rx) s = .next t → exec (.sqrtPrecise .q16 rd rm) t = .next u →
    0 ≤ |opnd .q16 s rx| - opnd .q16 u rd ∧ |opnd .q16 s rx| - opnd .q16 u rd ≤ 1)

/-- EXP2, LOG2, EXP, LOG and POW complete in each tier, in a release build always and in a strict build inside the
domain, with the compositions of their rules (43_transcendental.md R240 to R259). -/
def Obligations.ExponentialResults : Prop :=
  ∀ (t : Tier) (w : Family) (rd rs1 rs2 : RegNum) (s : State),
    ComputesOne (exp2Of t w rd rs1) s rd w (cfgExp2 s.build w t (opnd w s rs1)) ∧
    ComputesOne (expOf t w rd rs1) s rd w
      (cfgExp2 s.build w t (mulW s.build w (opnd w s rs1) (romEntry s.build w 8))) ∧
    (s.build.strict = false ∨ 0 < opnd w s rs1 →
      ComputesOne (log2Of t w rd rs1) s rd w
        (if opnd w s rs1 ≤ 0 then 0 else cfgLog2Pos s.build w t (opnd w s rs1)) ∧
      ComputesOne (logOf t w rd rs1) s rd w
        (if opnd w s rs1 ≤ 0 then 0
         else mulW s.build w (cfgLog2Pos s.build w t (opnd w s rs1)) (romEntry s.build w 7)) ∧
      ComputesOne (powOf t w rd rs1 rs2) s rd w
        (if opnd w s rs1 ≤ 0 then 0
         else cfgExp2 s.build w t (mulW s.build w
           (mulW s.build w (opnd w s rs2)
             (mulW s.build w (cfgLog2Pos s.build w t (opnd w s rs1)) (romEntry s.build w 7)))
           (romEntry s.build w 8))))

/-- SIN, COS, TAN and ATAN2 are total: they complete in each tier, in both builds, with the unit's tables; COS adds
PI_HALF with wraparound; ATAN2 takes y from RS1 and x from RS2 (43_transcendental.md R260 to R275). -/
def Obligations.TrigonometricResults : Prop :=
  ∀ (t : Tier) (w : Family) (rd rs1 rs2 : RegNum) (s : State),
    ComputesOne (sinOf t w rd rs1) s rd w (cfgSin s.build w t (opnd w s rs1)) ∧
    ComputesOne (cosOf t w rd rs1) s rd w
      (cfgSin s.build w t (wrap w.bits (opnd w s rs1 + romEntry s.build w 5))) ∧
    ComputesOne (tanOf t w rd rs1) s rd w (cfgTan s.build w t (opnd w s rs1)) ∧
    ComputesOne (atan2Of t w rd rs1 rs2) s rd w (cfgAtan2 s.build w t (opnd w s rs1) (opnd w s rs2))

/-- ASIN and ACOS complete in each tier, in a release build always and in a strict build for |a| <= ONE: Atan2 in family
64 of the operand x and the approximate root of (1+x)(1-x), 0 outside the domain; for family 32 the operand is
widened to x and the result narrowed (43_transcendental.md R276 to R283). -/
def Obligations.ArcResults : Prop :=
  ∀ (t : Tier) (rd rs1 : RegNum) (s : State),
    let one : Int := 2 ^ fracBits s.build .q32
    let root := fun x : Int => rootOrZero s.build .q32 t (mulW s.build .q32 (one + x) (one - x))
    let k := s.build.frac64.bits - 16
    let a := opnd .q32 s rs1
    let b := opnd .q16 s rs1
    (s.build.strict = false ∨ |a| ≤ one →
      ComputesOne (asinOf t .q32 rd rs1) s rd .q32 (if one < |a| then 0 else cfgAtan2 s.build .q32 t a (root a)) ∧
      ComputesOne (acosOf t .q32 rd rs1) s rd .q32 (if one < |a| then 0 else cfgAtan2 s.build .q32 t (root a) a)) ∧
    (s.build.strict = false ∨ |b| ≤ 2 ^ 16 →
      ComputesOne (asinOf t .q16 rd rs1) s rd .q16
        (if 2 ^ 16 < |b| then 0 else wrap 32 (asr (cfgAtan2 s.build .q32 t (shl b k) (root (shl b k))) k)) ∧
      ComputesOne (acosOf t .q16 rd rs1) s rd .q16
        (if 2 ^ 16 < |b| then 0 else wrap 32 (asr (cfgAtan2 s.build .q32 t (root (shl b k)) (shl b k)) k)))

/-- COS of a register writes exactly what SIN writes of a register that holds the operand plus PI_HALF, wrapped, for
every tier and configuration (43_transcendental.md R284); SIN of -a is the wrapped negation of SIN of a, for every a
but MIN, and SIN of 0 is 0 (R285). The two properties of R285, which the spec requires of every unit, hold by the
construction of cfgSin (assumption log 5). -/
def Obligations.SineLaws : Prop :=
  ∀ (t : Tier) (w : Family) (rd rs1 : RegNum) (s u p q : State), u.build = s.build →
    (opnd w u rs1 = wrap w.bits (opnd w s rs1 + romEntry s.build w 5) →
      exec (cosOf t w rd rs1) s = .next p → exec (sinOf t w rd rs1) u = .next q → p.readReg rd = q.readReg rd) ∧
    (opnd w s rs1 ≠ minRaw w → opnd w u rs1 = -opnd w s rs1 →
      exec (sinOf t w rd rs1) s = .next p → exec (sinOf t w rd rs1) u = .next q →
      opnd w q rd = wrap w.bits (-opnd w p rd) ∧ (opnd w s rs1 = 0 → p.readReg rd = 0))

/-- ATAN2 on the four axes at magnitude ONE (43_transcendental.md R287). The four values, which the spec requires of
every unit, hold by the construction of cfgAtan2 (assumption log 5). -/
def Obligations.Atan2OnAxes : Prop :=
  ∀ (t : Tier) (w : Family) (rd rs1 rs2 : RegNum) (s : State),
    let y := opnd w s rs1
    let x := opnd w s rs2
    let one : Int := 2 ^ fracBits s.build w
    (y = 0 → x = one → ComputesOne (atan2Of t w rd rs1 rs2) s rd w 0) ∧
    (y = one → x = 0 → ComputesOne (atan2Of t w rd rs1 rs2) s rd w (romEntry s.build w 5)) ∧
    (y = 0 → x = -one → ComputesOne (atan2Of t w rd rs1 rs2) s rd w (romEntry s.build w 4)) ∧
    (y = -one → x = 0 → ComputesOne (atan2Of t w rd rs1 rs2) s rd w (-romEntry s.build w 5))

/-! ## Vectors -/

/-- CLAMP and LERP complete, in each component with the values of their rules (44_vector.md R302, R303). -/
def Obligations.ClampLerpResults : Prop :=
  ∀ (w : Family) (vl : VLen) (sb : Bool) (rd rs1 rs2 rs3 : RegNum) (s : State),
    ((Instr.clamp w vl sb rd rs1 rs2 rs3).wellFormed = true →
      Computes (.clamp w vl sb rd rs1 rs2 rs3) s rd vl.count fun i => result w
        (if opnd w s (comp rs1 i) < opnd w s (bcomp sb rs2 i) then opnd w s (bcomp sb rs2 i)
         else if opnd w s (bcomp sb rs3 i) < opnd w s (comp rs1 i) then opnd w s (bcomp sb rs3 i)
         else opnd w s (comp rs1 i))) ∧
    ((Instr.lerp w vl rd rs1 rs2 rs3).wellFormed = true →
      Computes (.lerp w vl rd rs1 rs2 rs3) s rd vl.count fun i => result w (wrap w.bits (asr
        (opnd w s (comp rs1 i) * wrap w.bits (2 ^ fracBits s.build w - opnd w s rs3) +
          opnd w s (comp rs2 i) * opnd w s rs3) (fracBits s.build w))))

/-- DOT, CROSS, LENSQR and LENSQRW complete with the values of their rules: the wrapped sum of the floored
products, the cross product of three components, and the squared length from an exact sum, narrowed and not
(44_vector.md R304 to R307). -/
def Obligations.ProductResults : Prop :=
  ∀ (w : Family) (vl : VLen) (rd rs1 rs2 : RegNum) (s : State),
    ((Instr.dot w vl rd rs1 rs2).wellFormed = true →
      ComputesOne (.dot w vl rd rs1 rs2) s rd w (wrap w.bits (((List.range vl.count).map fun i =>
        mulW s.build w (opnd w s (comp rs1 i)) (opnd w s (comp rs2 i))).sum))) ∧
    ((Instr.cross w rd rs1 rs2).wellFormed = true →
      Computes (.cross w rd rs1 rs2) s rd 3 fun i => result w (subW w
        (mulW s.build w (opnd w s (comp rs1 ((i + 1) % 3))) (opnd w s (comp rs2 ((i + 2) % 3))))
        (mulW s.build w (opnd w s (comp rs1 ((i + 2) % 3))) (opnd w s (comp rs2 ((i + 1) % 3)))))) ∧
    ((Instr.lensqr w vl rd rs1).wellFormed = true →
      ComputesOne (.lensqr w vl rd rs1) s rd w (squaredLength w s rs1 vl.count)) ∧
    ((Instr.lensqrw vl rd rs1).wellFormed = true →
      ComputesOne (.lensqrw vl rd rs1) s rd .q32
        (wrap 64 (asr (((List.range vl.count).map fun i => opnd .q16 s (comp rs1 i) ^ 2).sum)
          (32 - s.build.frac64.bits))))

/-- LENGTH in its four tiers completes, in a release build always and in a strict build when the squared length is
not negative: the tier's root of the squared length, and 0 for a negative one (44_vector.md R308 to R312). -/
def Obligations.LengthResults : Prop :=
  ∀ (t : Tier) (w : Family) (vl : VLen) (rd rs1 : RegNum) (s : State),
    (s.build.strict = false ∨ 0 ≤ squaredLength w s rs1 vl.count) →
    ((lengthTierOf t w vl rd rs1).wellFormed = true →
      ComputesOne (lengthTierOf t w vl rd rs1) s rd w (rootOrZero s.build w t (squaredLength w s rs1 vl.count))) ∧
    ((Instr.lengthPrecise w vl rd rs1).wellFormed = true →
      ∃ r, ComputesOne (.lengthPrecise w vl rd rs1) s rd w r ∧ (squaredLength w s rs1 vl.count < 0 → r = 0) ∧
        (0 ≤ squaredLength w s rs1 vl.count →
          FloorRoot (shl (squaredLength w s rs1 vl.count) (fracBits s.build w)) r))

/-- NORM and CLAMPLEN complete in each tier, in a release build always and in a strict build inside the domain: NORM
gives each component times the tier's reciprocal root of the squared length; CLAMPLEN leaves the group unchanged
unless its length exceeds the maximum, and otherwise normalises it and scales by the maximum (44_vector.md R313 to
R320). -/
def Obligations.NormClampLenResults : Prop :=
  ∀ (t : Tier) (w : Family) (vl : VLen) (rd rs1 rs2 : RegNum) (s : State),
    let l := squaredLength w s rs1 vl.count
    let m := opnd w s rs2
    let unit := fun i => mulW s.build w (opnd w s (comp rs1 i)) (rsqrtOrZero s.build w t l)
    ((normOf t w vl rd rs1).wellFormed = true → (s.build.strict = false ∨ 0 < l) →
      Computes (normOf t w vl rd rs1) s rd vl.count fun i => result w (unit i)) ∧
    ((clamplenOf t w vl rd rs1 rs2).wellFormed = true → (s.build.strict = false ∨ 0 < l ∨ (l = 0 ∧ 0 ≤ m)) →
      Computes (clamplenOf t w vl rd rs1 rs2) s rd vl.count fun i => result w
        (if m < rootOrZero s.build w t l then mulW s.build w (unit i) m else opnd w s (comp rs1 i)))

/-- The cross product of a group with itself is the zero vector, and LERP at t = 0 and t = ONE gives its end points
(44_vector.md R303, R305, R321). -/
def Obligations.CrossSelfAndLerpEnds : Prop :=
  (∀ (w : Family) (rd rs1 : RegNum) (s t : State), (Instr.cross w rd rs1 rs1).wellFormed = true →
    exec (.cross w rd rs1 rs1) s = .next t → ∀ i < 3, t.readReg (comp rd i) = 0) ∧
  (∀ (w : Family) (vl : VLen) (rd rs1 rs2 rs3 : RegNum) (s t : State),
    (Instr.lerp w vl rd rs1 rs2 rs3).wellFormed = true → exec (.lerp w vl rd rs1 rs2 rs3) s = .next t →
    ∀ i < vl.count, (opnd w s rs3 = 0 → opnd w t (comp rd i) = opnd w s (comp rs1 i)) ∧
      (opnd w s rs3 = 2 ^ fracBits s.build w → opnd w t (comp rd i) = opnd w s (comp rs2 i)))

/-- When the exact squared length of v is in range, DOT(v, v) <= LENSQR(v) <= DOT(v, v) + (n - 1)
(44_vector.md R304, R306, R321; the premise rules out every wrap, that of LENSQR too). -/
def Obligations.DotBoundsLensqr : Prop :=
  ∀ (w : Family) (vl : VLen) (rd rs1 : RegNum) (s t u : State), (Instr.lensqr w vl rd rs1).wellFormed = true →
    asr (((List.range vl.count).map fun i => opnd w s (comp rs1 i) ^ 2).sum) (fracBits s.build w) ≤ maxRaw w →
    exec (.dot w vl rd rs1 rs1) s = .next t → exec (.lensqr w vl rd rs1) s = .next u →
    opnd w t rd ≤ opnd w u rd ∧ opnd w u rd ≤ opnd w t rd + (vl.count - 1)

/-! ## Domain faults -/

/-- In a strict build, DIV in its four tiers and MOD fault at the lowest component outside the domain, with ARG = 2,
COMP that component and VAL its denominator, and write nothing (41_scalar_arith.md R173, R174, R178;
60_exceptions.md R342, R343, R350). -/
def Obligations.DivisionTraps : Prop :=
  ∀ (t : Tier) (w : Family) (vl : VLen) (sb : Bool) (rd rs1 rs2 : RegNum) (s : State) (i : Nat),
    s.build.strict = true → i < vl.count → (divOf t w vl sb rd rs1 rs2).wellFormed = true →
    let b := fun k => opnd w s (bcomp sb rs2 k)
    ((b i = 0 ∨ b i = minRaw w) → (∀ k < i, b k ≠ 0 ∧ b k ≠ minRaw w) →
      TrapsDomain (divOf t w vl sb rd rs1 rs2) s 2 (BitVec.ofNat 2 i) (b i) ∧
      TrapsDomain (.divPrecise w vl sb rd rs1 rs2) s 2 (BitVec.ofNat 2 i) (b i)) ∧
    (b i = 0 → (∀ k < i, b k ≠ 0) → TrapsDomain (.mod w vl sb rd rs1 rs2) s 2 (BitVec.ofNat 2 i) 0)

/-- In a strict build, RATIO, SQRT, RSQRT, RCP, LOG2, LOG, POW, ASIN and ACOS in every tier fault on an operand outside
the domain, with the ARG of the table, COMP = 0 and VAL that operand, and write nothing (60_exceptions.md R342,
R343). -/
def Obligations.ScalarDomainTraps : Prop :=
  ∀ (t : Tier) (w : Family) (rd rs1 rs2 : RegNum) (s : State), s.build.strict = true →
    let a := opnd w s rs1
    (opnd w s rs2 = 0 → TrapsDomain (.ratio w rd rs1 rs2) s 2 0 0) ∧
    (a < 0 → TrapsDomain (sqrtOf t w rd rs1) s 1 0 a ∧ TrapsDomain (.sqrtPrecise w rd rs1) s 1 0 a) ∧
    (a ≤ 0 → TrapsDomain (rsqrtOf t w rd rs1) s 1 0 a ∧ TrapsDomain (log2Of t w rd rs1) s 1 0 a ∧
      TrapsDomain (logOf t w rd rs1) s 1 0 a ∧ TrapsDomain (powOf t w rd rs1 rs2) s 1 0 a) ∧
    (a = 0 ∨ a = minRaw w → TrapsDomain (rcpOf t w rd rs1) s 1 0 a) ∧
    (2 ^ fracBits s.build w < |a| → TrapsDomain (asinOf t w rd rs1) s 1 0 a ∧ TrapsDomain (acosOf t w rd rs1) s 1 0 a)

/-- In a strict build, LENGTH, NORM and CLAMPLEN in every tier fault on the squared length, an internal value: ARG = 0,
COMP = 0 and VAL the squared length, and write nothing (44_vector.md R308, R313, R317; 60_exceptions.md R342). -/
def Obligations.LengthDomainTraps : Prop :=
  ∀ (t : Tier) (w : Family) (vl : VLen) (rd rs1 rs2 : RegNum) (s : State), s.build.strict = true →
    let l := squaredLength w s rs1 vl.count
    (l < 0 → (lengthTierOf t w vl rd rs1).wellFormed = true →
      TrapsDomain (lengthTierOf t w vl rd rs1) s 0 0 l ∧ TrapsDomain (.lengthPrecise w vl rd rs1) s 0 0 l) ∧
    (l ≤ 0 → (normOf t w vl rd rs1).wellFormed = true → TrapsDomain (normOf t w vl rd rs1) s 0 0 l) ∧
    (l < 0 ∨ (l = 0 ∧ opnd w s rs2 < 0) → (clamplenOf t w vl rd rs1 rs2).wellFormed = true →
      TrapsDomain (clamplenOf t w vl rd rs1 rs2) s 0 0 l)

/-! ## Pseudo-instructions -/

/-- The commands that a pseudo-instruction stands for, run in order (30_encoding.md R107): clr, one, divp and sqrtp are
one command each; sub1 leaves ONE - rs1 in rd; vneg negates its group; qconj negates components 0 to 2 of its group and
moves component 3. R107 lets the groups of qconj overlap: where rd lies above rs1, component i is read after components
0 to i - 1 are written, so that a register of the source group that one of these wrote is read with its new value. -/
def Obligations.PseudoInstructionEffects : Prop :=
  (∀ (w : Family) (rd rs1 rs2 : RegNum) (s : State),
    execAll (Pseudo.clr w rd).expand s = exec (.const w rd 0) s ∧
    execAll (Pseudo.one w rd).expand s = exec (.const w rd 1) s ∧
    execAll (Pseudo.divp w rd rs1 rs2).expand s = exec (.divPrecise w .x1 false rd rs1 rs2) s ∧
    execAll (Pseudo.sqrtp w rd rs1).expand s = exec (.sqrtPrecise w rd rs1) s) ∧
  (∀ (w : Family) (rd rs1 rt : RegNum) (s t : State), (Pseudo.sub1 w rd rs1 rt).wellFormed = true →
    execAll (Pseudo.sub1 w rd rs1 rt).expand s = .next t →
    opnd w t rd = wrap w.bits (2 ^ fracBits s.build w - opnd w s rs1)) ∧
  (∀ (w : Family) (vl : VLen) (rd rs1 : RegNum) (s t : State), (Pseudo.vneg w vl rd rs1).wellFormed = true →
    execAll (Pseudo.vneg w vl rd rs1).expand s = .next t →
    ∀ i < vl.count, opnd w t (comp rd i) = wrap w.bits (-opnd w s (comp rs1 i))) ∧
  (∀ (rd rs1 : RegNum) (s t : State), (Pseudo.qconj rd rs1).wellFormed = true →
    execAll (Pseudo.qconj rd rs1).expand s = .next t →
    let a := fun i => if rs1.toNat < rd.toNat ∧ rd.toNat ≤ rs1.toNat + i then opnd .q32 t (comp rs1 i)
      else opnd .q32 s (comp rs1 i)
    (∀ i < 3, opnd .q32 t (comp rd i) = wrap 64 (-a i)) ∧ opnd .q32 t (comp rd 3) = a 3)
end

