-- ==== Sys2Proof/Laws/Encoding.lean ====
section
/-! SUPPORT. The C-format's fields and its word are one and the same (30_encoding.md R90). -/

namespace Sys2Proof

/-- Reading the fields of a packed word gives the fields back. -/
@[simp] theorem unpack_pack (f : Fields) : unpack (pack f) = f := by
  cases f with
  | mk op w tier vl s rd rs1 rs2 rs3 =>
    simp only [unpack, pack, Fields.mk.injEq]
    refine ⟨?_, ?_, ?_, ?_, ?_, ?_, ?_, ?_, ?_⟩ <;>
    · apply BitVec.eq_of_getLsbD_eq
      intro i hi
      simp only [BitVec.getLsbD_extractLsb', BitVec.getLsbD_append]
      interval_cases i <;> simp

/-- Packing the fields of a word gives the word back: no bit of a command word is outside the fields. -/
@[simp] theorem pack_unpack (c : Word32) : pack (unpack c) = c := by
  apply BitVec.eq_of_getLsbD_eq
  intro i hi
  simp only [unpack, pack, BitVec.getLsbD_extractLsb', BitVec.getLsbD_append]
  interval_cases i <;> simp

/-- The fields of a command's word are the command's fields. -/
@[simp] theorem unpack_encode (i : Instr) : unpack (encode i) = i.fields := unpack_pack _

end Sys2Proof
end

