-- ==== Sys2Proof/Laws/State.lean ====
section
/-! SUPPORT. One lemma per field per update of State, each true by definition, and the register reads of the
updates that touch no register. -/

namespace Sys2Proof.Machine

@[simp] theorem writeReg_regs (s : State) (r : RegNum) (v : Word64) : (s.writeReg r v).regs = s.regs.set r.toNat v r.isLt := rfl
@[simp] theorem writeReg_status (s : State) (r : RegNum) (v : Word64) : (s.writeReg r v).status = s.status := rfl
@[simp] theorem writeReg_ctrl (s : State) (r : RegNum) (v : Word64) : (s.writeReg r v).ctrl = s.ctrl := rfl
@[simp] theorem writeReg_cmdcnt (s : State) (r : RegNum) (v : Word64) : (s.writeReg r v).cmdcnt = s.cmdcnt := rfl
@[simp] theorem writeReg_faultCmd (s : State) (r : RegNum) (v : Word64) : (s.writeReg r v).faultCmd = s.faultCmd := rfl
@[simp] theorem writeReg_faultInfo (s : State) (r : RegNum) (v : Word64) : (s.writeReg r v).faultInfo = s.faultInfo := rfl
@[simp] theorem writeReg_faultValLo (s : State) (r : RegNum) (v : Word64) : (s.writeReg r v).faultValLo = s.faultValLo := rfl
@[simp] theorem writeReg_faultValHi (s : State) (r : RegNum) (v : Word64) : (s.writeReg r v).faultValHi = s.faultValHi := rfl
@[simp] theorem writeReg_build (s : State) (r : RegNum) (v : Word64) : (s.writeReg r v).build = s.build := rfl
@[simp] theorem writeReg_pending (s : State) (r : RegNum) (v : Word64) : (s.writeReg r v).pending = s.pending := rfl
@[simp] theorem writeReg_cmdidx (s : State) (r : RegNum) (v : Word64) : (s.writeReg r v).cmdidx = s.cmdidx := rfl
@[simp] theorem writeReg_reads (s : State) (r : RegNum) (v : Word64) : (s.writeReg r v).reads = s.reads := rfl
@[simp] theorem writeReg_draws (s : State) (r : RegNum) (v : Word64) : (s.writeReg r v).draws = s.draws := rfl

@[simp] theorem writeGroup_regs (s : State) (rd : RegNum) (vs : List Word64) : (s.writeGroup rd vs).regs = setGroup s.regs rd vs := rfl
@[simp] theorem writeGroup_status (s : State) (rd : RegNum) (vs : List Word64) : (s.writeGroup rd vs).status = s.status := rfl
@[simp] theorem writeGroup_ctrl (s : State) (rd : RegNum) (vs : List Word64) : (s.writeGroup rd vs).ctrl = s.ctrl := rfl
@[simp] theorem writeGroup_cmdcnt (s : State) (rd : RegNum) (vs : List Word64) : (s.writeGroup rd vs).cmdcnt = s.cmdcnt := rfl
@[simp] theorem writeGroup_faultCmd (s : State) (rd : RegNum) (vs : List Word64) : (s.writeGroup rd vs).faultCmd = s.faultCmd := rfl
@[simp] theorem writeGroup_faultInfo (s : State) (rd : RegNum) (vs : List Word64) : (s.writeGroup rd vs).faultInfo = s.faultInfo := rfl
@[simp] theorem writeGroup_faultValLo (s : State) (rd : RegNum) (vs : List Word64) : (s.writeGroup rd vs).faultValLo = s.faultValLo := rfl
@[simp] theorem writeGroup_faultValHi (s : State) (rd : RegNum) (vs : List Word64) : (s.writeGroup rd vs).faultValHi = s.faultValHi := rfl
@[simp] theorem writeGroup_build (s : State) (rd : RegNum) (vs : List Word64) : (s.writeGroup rd vs).build = s.build := rfl
@[simp] theorem writeGroup_pending (s : State) (rd : RegNum) (vs : List Word64) : (s.writeGroup rd vs).pending = s.pending := rfl
@[simp] theorem writeGroup_cmdidx (s : State) (rd : RegNum) (vs : List Word64) : (s.writeGroup rd vs).cmdidx = s.cmdidx := rfl
@[simp] theorem writeGroup_reads (s : State) (rd : RegNum) (vs : List Word64) : (s.writeGroup rd vs).reads = s.reads := rfl
@[simp] theorem writeGroup_draws (s : State) (rd : RegNum) (vs : List Word64) : (s.writeGroup rd vs).draws = s.draws := rfl

@[simp] theorem countCommand_regs (s : State) : (s.countCommand).regs = s.regs := rfl
@[simp] theorem countCommand_status (s : State) : (s.countCommand).status = s.status := rfl
@[simp] theorem countCommand_ctrl (s : State) : (s.countCommand).ctrl = s.ctrl := rfl
@[simp] theorem countCommand_cmdcnt (s : State) : (s.countCommand).cmdcnt = s.cmdcnt + 1 := rfl
@[simp] theorem countCommand_faultCmd (s : State) : (s.countCommand).faultCmd = s.faultCmd := rfl
@[simp] theorem countCommand_faultInfo (s : State) : (s.countCommand).faultInfo = s.faultInfo := rfl
@[simp] theorem countCommand_faultValLo (s : State) : (s.countCommand).faultValLo = s.faultValLo := rfl
@[simp] theorem countCommand_faultValHi (s : State) : (s.countCommand).faultValHi = s.faultValHi := rfl
@[simp] theorem countCommand_build (s : State) : (s.countCommand).build = s.build := rfl
@[simp] theorem countCommand_pending (s : State) : (s.countCommand).pending = s.pending := rfl
@[simp] theorem countCommand_cmdidx (s : State) : (s.countCommand).cmdidx = s.cmdidx := rfl
@[simp] theorem countCommand_reads (s : State) : (s.countCommand).reads = s.reads := rfl
@[simp] theorem countCommand_draws (s : State) : (s.countCommand).draws = s.draws := rfl
@[simp] theorem readReg_countCommand (s : State) (q : RegNum) : (s.countCommand).readReg q = s.readReg q := rfl
@[simp] theorem opnd_countCommand (w : Family) (s : State) (q : RegNum) : opnd w (s.countCommand) q = opnd w s q := rfl

@[simp] theorem takeDraw_regs (s : State) : (s.takeDraw).regs = s.regs := rfl
@[simp] theorem takeDraw_status (s : State) : (s.takeDraw).status = s.status := rfl
@[simp] theorem takeDraw_ctrl (s : State) : (s.takeDraw).ctrl = s.ctrl := rfl
@[simp] theorem takeDraw_cmdcnt (s : State) : (s.takeDraw).cmdcnt = s.cmdcnt := rfl
@[simp] theorem takeDraw_faultCmd (s : State) : (s.takeDraw).faultCmd = s.faultCmd := rfl
@[simp] theorem takeDraw_faultInfo (s : State) : (s.takeDraw).faultInfo = s.faultInfo := rfl
@[simp] theorem takeDraw_faultValLo (s : State) : (s.takeDraw).faultValLo = s.faultValLo := rfl
@[simp] theorem takeDraw_faultValHi (s : State) : (s.takeDraw).faultValHi = s.faultValHi := rfl
@[simp] theorem takeDraw_build (s : State) : (s.takeDraw).build = s.build := rfl
@[simp] theorem takeDraw_pending (s : State) : (s.takeDraw).pending = s.pending := rfl
@[simp] theorem takeDraw_cmdidx (s : State) : (s.takeDraw).cmdidx = s.cmdidx := rfl
@[simp] theorem takeDraw_reads (s : State) : (s.takeDraw).reads = s.reads := rfl
@[simp] theorem takeDraw_draws (s : State) : (s.takeDraw).draws = s.draws + 1 := rfl
@[simp] theorem readReg_takeDraw (s : State) (q : RegNum) : (s.takeDraw).readReg q = s.readReg q := rfl
@[simp] theorem opnd_takeDraw (w : Family) (s : State) (q : RegNum) : opnd w (s.takeDraw) q = opnd w s q := rfl

@[simp] theorem enterFault_regs (s : State) (c : Word32) (k : Cause) (a p : BitVec 2) (v : Int) : (s.enterFault c k a p v).regs = s.regs := rfl
@[simp] theorem enterFault_status (s : State) (c : Word32) (k : Cause) (a p : BitVec 2) (v : Int) : (s.enterFault c k a p v).status = s.status ||| 1 := rfl
@[simp] theorem enterFault_ctrl (s : State) (c : Word32) (k : Cause) (a p : BitVec 2) (v : Int) : (s.enterFault c k a p v).ctrl = s.ctrl := rfl
@[simp] theorem enterFault_cmdcnt (s : State) (c : Word32) (k : Cause) (a p : BitVec 2) (v : Int) : (s.enterFault c k a p v).cmdcnt = s.cmdcnt := rfl
@[simp] theorem enterFault_faultCmd (s : State) (c : Word32) (k : Cause) (a p : BitVec 2) (v : Int) : (s.enterFault c k a p v).faultCmd = c := rfl
@[simp] theorem enterFault_faultInfo (s : State) (c : Word32) (k : Cause) (a p : BitVec 2) (v : Int) : (s.enterFault c k a p v).faultInfo = faultInfoWord k a p := rfl
@[simp] theorem enterFault_faultValLo (s : State) (c : Word32) (k : Cause) (a p : BitVec 2) (v : Int) : (s.enterFault c k a p v).faultValLo = (BitVec.ofInt 64 v).extractLsb' 0 32 := rfl
@[simp] theorem enterFault_faultValHi (s : State) (c : Word32) (k : Cause) (a p : BitVec 2) (v : Int) : (s.enterFault c k a p v).faultValHi = (BitVec.ofInt 64 v).extractLsb' 32 32 := rfl
@[simp] theorem enterFault_build (s : State) (c : Word32) (k : Cause) (a p : BitVec 2) (v : Int) : (s.enterFault c k a p v).build = s.build := rfl
@[simp] theorem enterFault_pending (s : State) (c : Word32) (k : Cause) (a p : BitVec 2) (v : Int) : (s.enterFault c k a p v).pending = s.pending := rfl
@[simp] theorem enterFault_cmdidx (s : State) (c : Word32) (k : Cause) (a p : BitVec 2) (v : Int) : (s.enterFault c k a p v).cmdidx = s.cmdidx := rfl
@[simp] theorem enterFault_reads (s : State) (c : Word32) (k : Cause) (a p : BitVec 2) (v : Int) : (s.enterFault c k a p v).reads = s.reads := rfl
@[simp] theorem enterFault_draws (s : State) (c : Word32) (k : Cause) (a p : BitVec 2) (v : Int) : (s.enterFault c k a p v).draws = s.draws := rfl
@[simp] theorem readReg_enterFault (s : State) (c : Word32) (k : Cause) (a p : BitVec 2) (v : Int) (q : RegNum) : (s.enterFault c k a p v).readReg q = s.readReg q := rfl
@[simp] theorem opnd_enterFault (w : Family) (s : State) (c : Word32) (k : Cause) (a p : BitVec 2) (v : Int) (q : RegNum) : opnd w (s.enterFault c k a p v) q = opnd w s q := rfl

@[simp] theorem discardCommand_regs (s : State) : (s.discardCommand).regs = s.regs := rfl
@[simp] theorem discardCommand_status (s : State) : (s.discardCommand).status = s.status ||| 2 := rfl
@[simp] theorem discardCommand_ctrl (s : State) : (s.discardCommand).ctrl = s.ctrl := rfl
@[simp] theorem discardCommand_cmdcnt (s : State) : (s.discardCommand).cmdcnt = s.cmdcnt := rfl
@[simp] theorem discardCommand_faultCmd (s : State) : (s.discardCommand).faultCmd = s.faultCmd := rfl
@[simp] theorem discardCommand_faultInfo (s : State) : (s.discardCommand).faultInfo = s.faultInfo := rfl
@[simp] theorem discardCommand_faultValLo (s : State) : (s.discardCommand).faultValLo = s.faultValLo := rfl
@[simp] theorem discardCommand_faultValHi (s : State) : (s.discardCommand).faultValHi = s.faultValHi := rfl
@[simp] theorem discardCommand_build (s : State) : (s.discardCommand).build = s.build := rfl
@[simp] theorem discardCommand_pending (s : State) : (s.discardCommand).pending = s.pending := rfl
@[simp] theorem discardCommand_cmdidx (s : State) : (s.discardCommand).cmdidx = s.cmdidx := rfl
@[simp] theorem discardCommand_reads (s : State) : (s.discardCommand).reads = s.reads := rfl
@[simp] theorem discardCommand_draws (s : State) : (s.discardCommand).draws = s.draws := rfl
@[simp] theorem readReg_discardCommand (s : State) (q : RegNum) : (s.discardCommand).readReg q = s.readReg q := rfl
@[simp] theorem opnd_discardCommand (w : Family) (s : State) (q : RegNum) : opnd w (s.discardCommand) q = opnd w s q := rfl

@[simp] theorem clearFault_regs (s : State) : (s.clearFault).regs = s.regs := rfl
@[simp] theorem clearFault_status (s : State) : (s.clearFault).status = s.status &&& ~~~3 := rfl
@[simp] theorem clearFault_ctrl (s : State) : (s.clearFault).ctrl = s.ctrl := rfl
@[simp] theorem clearFault_cmdcnt (s : State) : (s.clearFault).cmdcnt = s.cmdcnt := rfl
@[simp] theorem clearFault_faultCmd (s : State) : (s.clearFault).faultCmd = s.faultCmd := rfl
@[simp] theorem clearFault_faultInfo (s : State) : (s.clearFault).faultInfo = s.faultInfo := rfl
@[simp] theorem clearFault_faultValLo (s : State) : (s.clearFault).faultValLo = s.faultValLo := rfl
@[simp] theorem clearFault_faultValHi (s : State) : (s.clearFault).faultValHi = s.faultValHi := rfl
@[simp] theorem clearFault_build (s : State) : (s.clearFault).build = s.build := rfl
@[simp] theorem clearFault_pending (s : State) : (s.clearFault).pending = s.pending := rfl
@[simp] theorem clearFault_cmdidx (s : State) : (s.clearFault).cmdidx = s.cmdidx := rfl
@[simp] theorem clearFault_reads (s : State) : (s.clearFault).reads = s.reads := rfl
@[simp] theorem clearFault_draws (s : State) : (s.clearFault).draws = s.draws := rfl
@[simp] theorem readReg_clearFault (s : State) (q : RegNum) : (s.clearFault).readReg q = s.readReg q := rfl
@[simp] theorem opnd_clearFault (w : Family) (s : State) (q : RegNum) : opnd w (s.clearFault) q = opnd w s q := rfl

@[simp] theorem clearDiscard_regs (s : State) : (s.clearDiscard).regs = s.regs := rfl
@[simp] theorem clearDiscard_status (s : State) : (s.clearDiscard).status = s.status &&& ~~~2 := rfl
@[simp] theorem clearDiscard_ctrl (s : State) : (s.clearDiscard).ctrl = s.ctrl := rfl
@[simp] theorem clearDiscard_cmdcnt (s : State) : (s.clearDiscard).cmdcnt = s.cmdcnt := rfl
@[simp] theorem clearDiscard_faultCmd (s : State) : (s.clearDiscard).faultCmd = s.faultCmd := rfl
@[simp] theorem clearDiscard_faultInfo (s : State) : (s.clearDiscard).faultInfo = s.faultInfo := rfl
@[simp] theorem clearDiscard_faultValLo (s : State) : (s.clearDiscard).faultValLo = s.faultValLo := rfl
@[simp] theorem clearDiscard_faultValHi (s : State) : (s.clearDiscard).faultValHi = s.faultValHi := rfl
@[simp] theorem clearDiscard_build (s : State) : (s.clearDiscard).build = s.build := rfl
@[simp] theorem clearDiscard_pending (s : State) : (s.clearDiscard).pending = s.pending := rfl
@[simp] theorem clearDiscard_cmdidx (s : State) : (s.clearDiscard).cmdidx = s.cmdidx := rfl
@[simp] theorem clearDiscard_reads (s : State) : (s.clearDiscard).reads = s.reads := rfl
@[simp] theorem clearDiscard_draws (s : State) : (s.clearDiscard).draws = s.draws := rfl
@[simp] theorem readReg_clearDiscard (s : State) (q : RegNum) : (s.clearDiscard).readReg q = s.readReg q := rfl
@[simp] theorem opnd_clearDiscard (w : Family) (s : State) (q : RegNum) : opnd w (s.clearDiscard) q = opnd w s q := rfl

@[simp] theorem resetUnit_regs (s : State) : (s.resetUnit).regs = Vector.replicate 32 0 := rfl
@[simp] theorem resetUnit_status (s : State) : (s.resetUnit).status = 0 := rfl
@[simp] theorem resetUnit_ctrl (s : State) : (s.resetUnit).ctrl = 0 := rfl
@[simp] theorem resetUnit_cmdcnt (s : State) : (s.resetUnit).cmdcnt = 0 := rfl
@[simp] theorem resetUnit_faultCmd (s : State) : (s.resetUnit).faultCmd = 0 := rfl
@[simp] theorem resetUnit_faultInfo (s : State) : (s.resetUnit).faultInfo = 0 := rfl
@[simp] theorem resetUnit_faultValLo (s : State) : (s.resetUnit).faultValLo = 0 := rfl
@[simp] theorem resetUnit_faultValHi (s : State) : (s.resetUnit).faultValHi = 0 := rfl
@[simp] theorem resetUnit_build (s : State) : (s.resetUnit).build = s.build := rfl
@[simp] theorem resetUnit_pending (s : State) : (s.resetUnit).pending = s.pending := rfl
@[simp] theorem resetUnit_cmdidx (s : State) : (s.resetUnit).cmdidx = s.cmdidx := rfl
@[simp] theorem resetUnit_reads (s : State) : (s.resetUnit).reads = s.reads := rfl
@[simp] theorem resetUnit_draws (s : State) : (s.resetUnit).draws = s.draws := rfl

@[simp] theorem advance_regs (s : State) : (s.advance).regs = s.regs := rfl
@[simp] theorem advance_status (s : State) : (s.advance).status = s.status := rfl
@[simp] theorem advance_ctrl (s : State) : (s.advance).ctrl = s.ctrl := rfl
@[simp] theorem advance_cmdcnt (s : State) : (s.advance).cmdcnt = s.cmdcnt := rfl
@[simp] theorem advance_faultCmd (s : State) : (s.advance).faultCmd = s.faultCmd := rfl
@[simp] theorem advance_faultInfo (s : State) : (s.advance).faultInfo = s.faultInfo := rfl
@[simp] theorem advance_faultValLo (s : State) : (s.advance).faultValLo = s.faultValLo := rfl
@[simp] theorem advance_faultValHi (s : State) : (s.advance).faultValHi = s.faultValHi := rfl
@[simp] theorem advance_build (s : State) : (s.advance).build = s.build := rfl
@[simp] theorem advance_pending (s : State) : (s.advance).pending = s.pending := rfl
@[simp] theorem advance_cmdidx (s : State) : (s.advance).cmdidx = s.cmdidx + 1 := rfl
@[simp] theorem advance_reads (s : State) : (s.advance).reads = s.reads := rfl
@[simp] theorem advance_draws (s : State) : (s.advance).draws = s.draws := rfl
@[simp] theorem readReg_advance (s : State) (q : RegNum) : (s.advance).readReg q = s.readReg q := rfl
@[simp] theorem opnd_advance (w : Family) (s : State) (q : RegNum) : opnd w (s.advance) q = opnd w s q := rfl

@[simp] theorem respond_regs (s : State) (v : Word32) : (s.respond v).regs = s.regs := rfl
@[simp] theorem respond_status (s : State) (v : Word32) : (s.respond v).status = s.status := rfl
@[simp] theorem respond_ctrl (s : State) (v : Word32) : (s.respond v).ctrl = s.ctrl := rfl
@[simp] theorem respond_cmdcnt (s : State) (v : Word32) : (s.respond v).cmdcnt = s.cmdcnt := rfl
@[simp] theorem respond_faultCmd (s : State) (v : Word32) : (s.respond v).faultCmd = s.faultCmd := rfl
@[simp] theorem respond_faultInfo (s : State) (v : Word32) : (s.respond v).faultInfo = s.faultInfo := rfl
@[simp] theorem respond_faultValLo (s : State) (v : Word32) : (s.respond v).faultValLo = s.faultValLo := rfl
@[simp] theorem respond_faultValHi (s : State) (v : Word32) : (s.respond v).faultValHi = s.faultValHi := rfl
@[simp] theorem respond_build (s : State) (v : Word32) : (s.respond v).build = s.build := rfl
@[simp] theorem respond_pending (s : State) (v : Word32) : (s.respond v).pending = s.pending := rfl
@[simp] theorem respond_cmdidx (s : State) (v : Word32) : (s.respond v).cmdidx = s.cmdidx := rfl
@[simp] theorem respond_reads (s : State) (v : Word32) : (s.respond v).reads = v :: s.reads := rfl
@[simp] theorem respond_draws (s : State) (v : Word32) : (s.respond v).draws = s.draws := rfl
@[simp] theorem readReg_respond (s : State) (v : Word32) (q : RegNum) : (s.respond v).readReg q = s.readReg q := rfl
@[simp] theorem opnd_respond (w : Family) (s : State) (v : Word32) (q : RegNum) : opnd w (s.respond v) q = opnd w s q := rfl

end Sys2Proof.Machine
end

