-- ==== Sys2Proof/Laws/Ops.lean ====
section
/-! SUPPORT. What each shared operation can do, said once: reading and writing registers and groups, the loop over
components, and running a command. -/

namespace Sys2Proof.Machine

/-- Component 0 of a group is its base register. -/
@[simp] theorem comp_zero (r : RegNum) : comp r 0 = r := by simp [comp]

/-- Component i + 1 from base r is component i from the next register. -/
theorem comp_succ (r : RegNum) (i : Nat) : comp r (i + 1) = comp (r + 1) i := by
  unfold comp
  rw [BitVec.add_assoc]
  congr 1
  apply BitVec.eq_of_toNat_eq
  simp
  omega

/-- Two components of one group of at most 32 registers are different registers. -/
theorem comp_inj (r : RegNum) (i j : Nat) (hi : i < 32) (hj : j < 32) (h : comp r i = comp r j) : i = j := by
  unfold comp at h
  have h' := congrArg BitVec.toNat h
  simp only [BitVec.toNat_add, BitVec.toNat_ofNat] at h'
  have := r.isLt
  omega

/-- Writing a register and reading it. -/
@[simp] theorem readReg_writeReg_self (s : State) (r : RegNum) (v : Word64) :
    (s.writeReg r v).readReg r = v := by simp [State.readReg]

/-- Writing a register leaves every other one alone. -/
theorem readReg_writeReg_ne (s : State) (r q : RegNum) (v : Word64) (h : q ≠ r) :
    (s.writeReg r v).readReg q = s.readReg q := by
  have hne : ¬ r.toNat = q.toNat := fun e => h (BitVec.eq_of_toNat_eq e.symm)
  simp [State.readReg, hne]

/-- A register outside the group is unchanged. -/
theorem setGroup_out (vs : List Word64) (regs : Vector Word64 32) (rd q : RegNum)
    (h : ∀ i < vs.length, q ≠ comp rd i) : (setGroup regs rd vs)[q.toNat]'q.isLt = regs[q.toNat]'q.isLt := by
  induction vs generalizing regs rd with
  | nil => rfl
  | cons v vs ih =>
    have h0 : q ≠ rd := by simpa using h 0 (by simp)
    have hne : ¬ rd.toNat = q.toNat := fun e => h0 (BitVec.eq_of_toNat_eq e.symm)
    rw [setGroup, ih]
    · simp [hne]
    · intro i hi
      rw [← comp_succ]
      exact h (i + 1) (by simpa using hi)

/-- Component i of the group reads the i-th value written. -/
theorem setGroup_in (vs : List Word64) (regs : Vector Word64 32) (rd : RegNum) (hl : vs.length ≤ 32)
    (i : Nat) (hi : i < vs.length) : (setGroup regs rd vs)[(comp rd i).toNat]'(comp rd i).isLt = vs[i] := by
  induction vs generalizing regs rd i with
  | nil => simp at hi
  | cons v vs ih =>
    rw [setGroup]
    cases i with
    | zero =>
      have hout := setGroup_out vs (regs.set rd.toNat v rd.isLt) (rd + 1) rd (by
        intro i hi' e
        rw [← comp_succ] at e
        have := comp_inj rd 0 (i + 1) (by omega) (by simp at hl; omega) (by simpa using e)
        omega)
      simpa using hout
    | succ i =>
      have := ih (regs.set rd.toNat v rd.isLt) (rd + 1) (by simp at hl; omega) i (by simpa using hi)
      simp only [comp_succ]
      simpa using this

/-- Phase 3 writes component i of the group (44_vector.md R300). -/
theorem readReg_writeGroup_in (s : State) (rd : RegNum) (vs : List Word64) (hl : vs.length ≤ 32) (i : Nat)
    (hi : i < vs.length) : (s.writeGroup rd vs).readReg (comp rd i) = vs[i] :=
  setGroup_in vs s.regs rd hl i hi

/-- Phase 3 writes no register outside the group (44_vector.md R300). -/
theorem readReg_writeGroup_out (s : State) (rd q : RegNum) (vs : List Word64)
    (h : ∀ i < vs.length, q ≠ comp rd i) : (s.writeGroup rd vs).readReg q = s.readReg q :=
  setGroup_out vs s.regs rd q h

/-- The domain check faults in a strict build only (60_exceptions.md R343, R344). -/
theorem domainCheck_strict (b : Build) (a : BitVec 2) (c : Nat) (v : Int) (h : b.strict = true) :
    domainCheck b a c v = .error ⟨a, BitVec.ofNat 2 c, v⟩ := by simp [domainCheck, h]

/-- In a release build the domain check answers 0 (60_exceptions.md R344). -/
theorem domainCheck_release (b : Build) (a : BitVec 2) (c : Nat) (v : Int) (h : b.strict = false) :
    domainCheck b a c v = .ok 0 := by simp [domainCheck, h]

/-- When every component has a result, the loop answers them in order (44_vector.md R300). -/
theorem componentsFrom_ok (f : Nat → Except DomainError Int) (g : Nat → Int) (k i : Nat)
    (h : ∀ j, i ≤ j → j < i + k → f j = .ok (g j)) :
    componentsFrom f i k = .ok ((List.range' i k).map g) := by
  induction k generalizing i with
  | zero => rfl
  | succ k ih =>
    rw [componentsFrom, h i (by omega) (by omega), ih (i + 1) (fun j h1 h2 => h j (by omega) (by omega))]
    simp [List.range'_succ]

/-- The first component with a domain error ends the loop (60_exceptions.md R350). -/
theorem componentsFrom_error (f : Nat → Except DomainError Int) (e : DomainError) (k i j : Nat)
    (hj : i ≤ j) (hk : j < i + k) (he : f j = .error e)
    (h : ∀ l, i ≤ l → l < j → ∃ v, f l = .ok v) : componentsFrom f i k = .error e := by
  induction k generalizing i with
  | zero => omega
  | succ k ih =>
    rw [componentsFrom]
    rcases Nat.eq_or_lt_of_le hj with rfl | hlt
    · rw [he]
    · obtain ⟨v, hv⟩ := h i (by omega) hlt
      rw [hv, ih (i + 1) hlt (by omega) (fun l h1 h2 => h l (by omega) h2)]

/-- The loop answers as many results as there are components, or a domain error of one component. -/
theorem componentsFrom_cases (f : Nat → Except DomainError Int) (k i : Nat) :
    (∃ vs, componentsFrom f i k = .ok vs ∧ vs.length = k) ∨
    (∃ j e, i ≤ j ∧ j < i + k ∧ f j = .error e ∧ componentsFrom f i k = .error e) := by
  induction k generalizing i with
  | zero => exact .inl ⟨[], rfl, rfl⟩
  | succ k ih =>
    cases hf : f i with
    | error e => exact .inr ⟨i, e, le_refl _, by omega, hf, by rw [componentsFrom, hf]⟩
    | ok v =>
      rcases ih (i + 1) with ⟨vs, h1, h2⟩ | ⟨j, e, h1, h2, h3, h4⟩
      · exact .inl ⟨v :: vs, by rw [componentsFrom, hf, h1], by simp [h2]⟩
      · exact .inr ⟨j, e, by omega, by omega, h3, by rw [componentsFrom, hf, h4]⟩

/-- A componentwise command whose components all have results (44_vector.md R300). -/
theorem componentwise_ok (w : Family) (n : Nat) (f : Nat → Except DomainError Int) (g : Nat → Int)
    (h : ∀ j < n, f j = .ok (g j)) :
    componentwise w n f = .ok ((List.range n).map fun i => result w (g i)) := by
  unfold componentwise
  rw [componentsFrom_ok f g n 0 (fun j _ hj => h j (by omega))]
  simp [Except.map, List.range_eq_range', Function.comp_def]

/-- A componentwise command ends at its first domain error (60_exceptions.md R350). -/
theorem componentwise_error (w : Family) (n j : Nat) (f : Nat → Except DomainError Int) (e : DomainError)
    (hj : j < n) (he : f j = .error e) (h : ∀ l < j, ∃ v, f l = .ok v) :
    componentwise w n f = .error e := by
  unfold componentwise
  rw [componentsFrom_error f e n 0 j (Nat.zero_le _) (by omega) he (fun l _ hl => h l hl)]
  rfl

/-- A command answers a next state, whatever its operands (60_exceptions.md R345). -/
theorem runCommand_cases (i : Instr) (rd : RegNum) (r : Except DomainError (List Word64)) (s t : State)
    (h : runCommand i rd r s = .next t) :
    (i.wellFormed = false ∧ t = s.enterFault (encode i) .illegalCommand 0 0 0) ∨
    (i.wellFormed = true ∧ ∃ e, r = .error e ∧ t = s.enterFault (encode i) .domainFault e.arg e.comp e.val) ∨
    (i.wellFormed = true ∧ ∃ vs, r = .ok vs ∧ t = (s.writeGroup rd vs).countCommand) := by
  unfold runCommand at h
  split at h
  · rename_i hw
    cases r with
    | error e => exact .inr (.inl ⟨hw, e, rfl, by simpa using h.symm⟩)
    | ok vs => exact .inr (.inr ⟨hw, vs, rfl, by simpa using h.symm⟩)
  · rename_i hw
    exact .inl ⟨by simpa using hw, by simpa using h.symm⟩

/-- A legal command without a domain error writes its results and is counted (60_exceptions.md R345). -/
theorem runCommand_ok (i : Instr) (rd : RegNum) (vs : List Word64) (s : State) (h : i.wellFormed = true) :
    runCommand i rd (.ok vs) s = .next (s.writeGroup rd vs).countCommand := by simp [runCommand, h]

/-- A legal command with a domain error takes DomainFault (60_exceptions.md R343, R345). -/
theorem runCommand_error (i : Instr) (rd : RegNum) (e : DomainError) (s : State) (h : i.wellFormed = true) :
    runCommand i rd (.error e) s = .next (s.enterFault (encode i) .domainFault e.arg e.comp e.val) := by
  simp [runCommand, h]

end Sys2Proof.Machine
end

