-- ==== Sys2Proof/Laws/Exec.lean ====
section
/-! SUPPORT. What a command can do, said once for all of Instr: it runs `runCommand` on results for its destination,
or on a domain error of a strict build that its row of 60_exceptions.md R342 admits. -/

namespace Sys2Proof.Machine

/-- A computation whose only domain errors are those of a strict build with this ARG and COMP. -/
structure Reports {α : Type} (b : Build) (arg comp : BitVec 2) (v : Except DomainError α) : Prop where
  report : ∀ e, v = .error e → b.strict = true ∧ e.arg = arg ∧ e.comp = comp

theorem reports_ok {α : Type} (b : Build) (a c : BitVec 2) (x : α) : Reports b a c (.ok x) := by
  refine ⟨fun e h => ?_⟩
  cases h

/-- The domain check reports its own ARG and COMP (60_exceptions.md R343). -/
theorem reports_domainCheck (b : Build) (a : BitVec 2) (c : Nat) (v : Int) :
    Reports b a (BitVec.ofNat 2 c) (domainCheck b a c v) := by
  refine ⟨fun e h => ?_⟩
  unfold domainCheck at h
  split at h
  · rename_i hs
    cases h
    exact ⟨hs, rfl, rfl⟩
  · cases h

theorem reports_ite {α : Type} {b : Build} {a c : BitVec 2} (p : Prop) [Decidable p] {x y : Except DomainError α}
    (hx : Reports b a c x) (hy : Reports b a c y) : Reports b a c (if p then x else y) := by
  split
  · exact hx
  · exact hy

theorem reports_map {α β : Type} {b : Build} {a c : BitVec 2} (f : α → β) {x : Except DomainError α}
    (hx : Reports b a c x) : Reports b a c (x.map f) := by
  refine ⟨fun e h => ?_⟩
  cases x with
  | error e' => exact hx.report e (by simpa [Except.map] using h)
  | ok v => cases h

theorem reports_divPreciseRaw (b : Build) (w : Family) (i : Nat) (x y : Int) :
    Reports b 2 (BitVec.ofNat 2 i) (divPreciseRaw b w i x y) :=
  reports_ite _ (reports_domainCheck ..) (reports_ok ..)

theorem reports_divApprox (b : Build) (w : Family) (t : Tier) (i : Nat) (x y : Int) :
    Reports b 2 (BitVec.ofNat 2 i) (divApprox b w t i x y) :=
  reports_ite _ (reports_domainCheck ..) (reports_ite _ (reports_ok ..) (reports_ok ..))

theorem reports_modRaw (b : Build) (i : Nat) (x y : Int) : Reports b 2 (BitVec.ofNat 2 i) (modRaw b i x y) :=
  reports_ite _ (reports_domainCheck ..) (reports_ok ..)

theorem reports_ratioRaw (b : Build) (w : Family) (p q : Int) : Reports b 2 0 (ratioRaw b w p q) :=
  reports_ite _ (reports_domainCheck ..) (reports_ok ..)

theorem reports_sqrtPreciseRaw (b : Build) (w : Family) (a : Int) : Reports b 1 0 (sqrtPreciseRaw b w a) :=
  reports_ite _ (reports_domainCheck ..) (reports_ok ..)

theorem reports_sqrtApprox (b : Build) (w : Family) (t : Tier) (a : Int) : Reports b 1 0 (sqrtApprox b w t a) :=
  reports_ite _ (reports_domainCheck ..) (reports_ite _ (reports_ok ..) (reports_ok ..))

theorem reports_rsqrtApprox (b : Build) (w : Family) (t : Tier) (arg : BitVec 2) (a : Int) :
    Reports b arg 0 (rsqrtApprox b w t arg a) :=
  reports_ite _ (reports_domainCheck ..) (reports_ok ..)

theorem reports_rcpApprox (b : Build) (w : Family) (t : Tier) (a : Int) : Reports b 1 0 (rcpApprox b w t a) :=
  reports_ite _ (reports_domainCheck ..) (reports_ite _ (reports_ok ..) (reports_ok ..))

theorem reports_log2Approx (b : Build) (w : Family) (t : Tier) (a : Int) : Reports b 1 0 (log2Approx b w t a) :=
  reports_ite _ (reports_domainCheck ..) (reports_ok ..)

theorem reports_logApprox (b : Build) (w : Family) (t : Tier) (a : Int) : Reports b 1 0 (logApprox b w t a) :=
  reports_ite _ (reports_domainCheck ..) (reports_ok ..)

theorem reports_powApprox (b : Build) (w : Family) (t : Tier) (x e : Int) : Reports b 1 0 (powApprox b w t x e) :=
  reports_ite _ (reports_domainCheck ..) (reports_map _ (reports_logApprox ..))

theorem reports_asinApprox (b : Build) (w : Family) (t : Tier) (a : Int) : Reports b 1 0 (asinApprox b w t a) :=
  reports_ite _ (reports_domainCheck ..) (reports_map _ (reports_sqrtApprox ..))

theorem reports_acosApprox (b : Build) (w : Family) (t : Tier) (a : Int) : Reports b 1 0 (acosApprox b w t a) :=
  reports_ite _ (reports_domainCheck ..) (reports_map _ (reports_sqrtApprox ..))

/-- A root of a squared length that is not negative has no domain error of its own. -/
theorem reports_lengthOf (b : Build) (l : Int) (root : Int → Except DomainError Int)
    (h : ∀ a, 0 ≤ a → ∃ v, root a = .ok v) : Reports b 0 0 (lengthOf b l root) := by
  unfold lengthOf
  split
  · exact reports_domainCheck ..
  · rename_i hl
    obtain ⟨v, hv⟩ := h l (by omega)
    rw [hv]
    exact reports_ok ..

theorem sqrtApprox_ok (b : Build) (w : Family) (t : Tier) (a : Int) (h : 0 ≤ a) :
    sqrtApprox b w t a = .ok (if a = 0 then 0 else cfgSqrtPos b w t a) := by
  unfold sqrtApprox
  rw [if_neg (by omega)]
  split <;> rfl

theorem sqrtPreciseRaw_ok (b : Build) (w : Family) (a : Int) (h : 0 ≤ a) :
    sqrtPreciseRaw b w a = .ok (isqrt (shl a (fracBits b w)).toNat) := by
  unfold sqrtPreciseRaw
  rw [if_neg (by omega)]

theorem reports_lengthApprox (b : Build) (w : Family) (t : Tier) (xs : List Int) :
    Reports b 0 0 (lengthApprox b w t xs) :=
  reports_lengthOf _ _ _ fun a h => ⟨_, sqrtApprox_ok b w t a h⟩

theorem reports_lengthPreciseRaw (b : Build) (w : Family) (xs : List Int) :
    Reports b 0 0 (lengthPreciseRaw b w xs) :=
  reports_lengthOf _ _ _ fun a h => ⟨_, sqrtPreciseRaw_ok b w a h⟩

theorem reports_normApprox (b : Build) (w : Family) (t : Tier) (xs : List Int) :
    Reports b 0 0 (normApprox b w t xs) := reports_map _ (reports_rsqrtApprox ..)

theorem reports_clampLenApprox (b : Build) (w : Family) (t : Tier) (xs : List Int) (m : Int) :
    Reports b 0 0 (clampLenApprox b w t xs m) := by
  have hl := reports_lengthApprox b w t xs
  unfold clampLenApprox
  cases h : lengthApprox b w t xs with
  | error e =>
    refine ⟨fun e' he' => ?_⟩
    have : e = e' := by simpa using he'
    subst this
    exact hl.report e h
  | ok len => exact reports_ite _ (reports_map _ (reports_normApprox ..)) (reports_ok ..)

/-- How many results each computation answers. -/
theorem length_normApprox (b : Build) (w : Family) (t : Tier) (xs vs : List Int) (h : normApprox b w t xs = .ok vs) :
    vs.length = xs.length := by
  unfold normApprox at h
  cases hr : rsqrtApprox b w t 0 (lenSqr b w xs) with
  | error e => rw [hr] at h; cases h
  | ok k =>
    rw [hr] at h
    have : xs.map (fun x => mulW b w x k) = vs := by simpa [Except.map] using h
    simp [← this]

theorem length_clampLenApprox (b : Build) (w : Family) (t : Tier) (xs vs : List Int) (m : Int)
    (h : clampLenApprox b w t xs m = .ok vs) : vs.length = xs.length := by
  unfold clampLenApprox at h
  cases hl : lengthApprox b w t xs with
  | error e => rw [hl] at h; cases h
  | ok len =>
    rw [hl] at h
    simp only at h
    split at h
    · cases hn : normApprox b w t xs with
      | error e => rw [hn] at h; cases h
      | ok us =>
        rw [hn] at h
        have : us.map (fun u => mulW b w u m) = vs := by simpa [Except.map] using h
        rw [← this, List.length_map, length_normApprox b w t xs us hn]
    · have : xs = vs := by simpa using h
      rw [this]

@[simp] theorem length_opnds (w : Family) (s : State) (r : RegNum) (n : Nat) : (opnds w s r n).length = n := by
  simp [opnds]

/-- What the computation of a command can answer: as many results as its destination has registers, or a domain error
of a strict build with the ARG of the opcode and a COMP below n (60_exceptions.md R342). -/
structure Sound (i : Instr) (b : Build) (r : Except DomainError (List Word64)) : Prop where
  ok : ∀ vs, r = .ok vs → vs.length = (destination i).2
  error : ∀ e, r = .error e →
    b.strict = true ∧ domainArg i.fields.op = some e.arg ∧ e.comp.toNat ≤ i.fields.vl.toNat

theorem sound_ok (i : Instr) (b : Build) (vs : List Word64) (h : vs.length = (destination i).2) :
    Sound i b (.ok vs) := by
  refine ⟨?_, ?_⟩
  · intro vs' h'
    cases h'
    exact h
  · intro e h'
    cases h'

theorem sound_single (i : Instr) (b : Build) (w : Family) (a : BitVec 2) (v : Except DomainError Int)
    (hd : (destination i).2 = 1) (ha : domainArg i.fields.op = some a) (h : Reports b a 0 v) :
    Sound i b (single w v) := by
  cases v with
  | ok x => exact sound_ok i b _ hd.symm
  | error e =>
    refine ⟨?_, ?_⟩
    · intro vs h'
      cases h'
    · intro e' h'
      have : e = e' := by simpa [single, Except.map] using h'
      subst this
      obtain ⟨h1, h2, h3⟩ := h.report e rfl
      exact ⟨h1, by rw [ha, h2], by rw [h3]; exact Nat.zero_le _⟩

theorem sound_group (i : Instr) (b : Build) (w : Family) (a : BitVec 2) (v : Except DomainError (List Int))
    (hd : ∀ vs, v = .ok vs → vs.length = (destination i).2) (ha : domainArg i.fields.op = some a)
    (h : Reports b a 0 v) : Sound i b (groupResult w v) := by
  cases v with
  | ok x => exact sound_ok i b _ (by simpa using hd x rfl)
  | error e =>
    refine ⟨?_, ?_⟩
    · intro vs h'
      cases h'
    · intro e' h'
      have : e = e' := by simpa [groupResult, Except.map] using h'
      subst this
      obtain ⟨h1, h2, h3⟩ := h.report e rfl
      exact ⟨h1, by rw [ha, h2], by rw [h3]; exact Nat.zero_le _⟩

theorem sound_components (i : Instr) (b : Build) (w : Family) (n : Nat) (f : Nat → Except DomainError Int)
    (hn : n ≤ 4) (hd : (destination i).2 = n) (hv : i.fields.vl.toNat + 1 = n)
    (h : ∀ j e, f j = .error e →
      b.strict = true ∧ domainArg i.fields.op = some e.arg ∧ e.comp = BitVec.ofNat 2 j) :
    Sound i b (componentwise w n f) := by
  unfold componentwise
  rcases componentsFrom_cases f n 0 with ⟨vs, h1, h2⟩ | ⟨j, e, h1, h2, h3, h4⟩
  · rw [h1]
    exact sound_ok i b _ (by simp [h2, hd])
  · rw [h4]
    refine ⟨?_, ?_⟩
    · intro vs h'
      cases h'
    · intro e' h'
      have : e = e' := by simpa [Except.map] using h'
      subst this
      obtain ⟨g1, g2, g3⟩ := h j e h3
      refine ⟨g1, g2, ?_⟩
      rw [g3, BitVec.toNat_ofNat]
      omega

theorem vlen_count (vl : VLen) : vl.code.toNat + 1 = vl.count := by cases vl <;> rfl

theorem vlen_le (vl : VLen) : vl.count ≤ 4 := by cases vl <;> decide

/-- One component's error, as the loop of a componentwise command passes it on. -/
theorem error_of_reports (i : Instr) (b : Build) (a : BitVec 2) (ha : domainArg i.fields.op = some a)
    (f : Nat → Except DomainError Int) (h : ∀ j, Reports b a (BitVec.ofNat 2 j) (f j)) (j : Nat) (e : DomainError)
    (he : f j = .error e) : b.strict = true ∧ domainArg i.fields.op = some e.arg ∧ e.comp = BitVec.ofNat 2 j := by
  obtain ⟨h1, h2, h3⟩ := (h j).report e he
  exact ⟨h1, by rw [ha, h2], h3⟩

/-- A computation without a domain condition, componentwise. -/
theorem no_error (i : Instr) (b : Build) (g : Nat → Int) (j : Nat) (e : DomainError)
    (h : (Except.ok (g j) : Except DomainError Int) = .error e) :
    b.strict = true ∧ domainArg i.fields.op = some e.arg ∧ e.comp = BitVec.ofNat 2 j := by
  cases h

/-- A single result without a domain condition. -/
theorem sound_total (i : Instr) (b : Build) (w : Family) (x : Int) (hd : (destination i).2 = 1) :
    Sound i b (single w (.ok x)) := sound_ok i b _ hd.symm

/-- What every command does: it runs `runCommand` on a sound computation, in its own state or, for FROMF and FROMD,
with one draw taken. -/
def Runs (i : Instr) (s : State) : Prop :=
  ∃ r s0, exec i s = runCommand i (destination i).1 r s0 ∧ (s0 = s ∨ (drawsFloat i = true ∧ s0 = s.takeDraw)) ∧
    Sound i s.build r

theorem runs_intro (i : Instr) (s : State) (r : Except DomainError (List Word64))
    (h : exec i s = runCommand i (destination i).1 r s) (hr : Sound i s.build r) : Runs i s :=
  ⟨r, s, h, .inl rfl, hr⟩

/-- Writing the results and counting the command is completion (60_exceptions.md R345). -/
theorem completed_of_run (s s0 : State) (rd : RegNum) (n : Nat) (v : Nat → Word64) (vs : List Word64)
    (hs : s0 = s ∨ s0 = s.takeDraw) (hn : n ≤ 32) (hl : vs.length = n) (hv : ∀ k (h : k < vs.length), vs[k] = v k) :
    Completed s (s0.writeGroup rd vs).countCommand rd n v := by
  have hr : ∀ q, s0.readReg q = s.readReg q := by rcases hs with rfl | rfl <;> intro q <;> rfl
  refine ⟨⟨?_, ?_⟩, ?_, ?_, ?_⟩
  · intro i hi
    rw [readReg_countCommand, readReg_writeGroup_in _ _ _ (by omega) i (by omega)]
    exact hv i (by omega)
  · intro q hq
    rw [readReg_countCommand, readReg_writeGroup_out _ _ _ _ (by rw [hl]; exact hq), hr]
  · rcases hs with rfl | rfl <;> rfl
  · rcases hs with rfl | rfl <;> exact ⟨rfl, rfl, rfl, rfl, rfl⟩
  · rcases hs with rfl | rfl <;> exact ⟨rfl, rfl, rfl, rfl, rfl⟩

/-- A legal command whose computation answers these results completes with them. -/
theorem computes_of_run (i : Instr) (s : State) (rd : RegNum) (n : Nat) (v : Nat → Word64) (vs : List Word64)
    (he : exec i s = runCommand i rd (.ok vs) s) (hw : i.wellFormed = true) (hn : n ≤ 32) (hl : vs.length = n)
    (hv : ∀ k (h : k < vs.length), vs[k] = v k) : Computes i s rd n v :=
  ⟨_, he.trans (runCommand_ok _ _ _ _ hw), completed_of_run s s rd n v vs (.inl rfl) hn hl hv, rfl⟩

/-- Fault entry leaves what 60_exceptions.md R345 says. -/
theorem faulted_enterFault (s : State) (c : Word32) (cause : Cause) (arg cmp : BitVec 2) (val : Int) :
    Faulted s (s.enterFault c cause arg cmp val) c cause arg cmp val := by
  refine ⟨fun q => rfl, rfl, rfl, ⟨rfl, rfl, rfl, rfl, rfl⟩, rfl, rfl, ?_, ?_, ?_⟩
  · simp only [State.faultVal, State.enterFault]
    apply BitVec.eq_of_getLsbD_eq
    intro i hi
    simp only [BitVec.getLsbD_append, BitVec.getLsbD_extractLsb']
    by_cases h : i < 32
    · simp [h]
    · simp [h]
      have : i - 32 < 32 := by omega
      have e : 32 + (i - 32) = i := by omega
      simp [this, e]
  · simp [State.faultHeld, State.enterFault]
  · simp [State.discard, State.enterFault]

/-- A legal command whose computation meets a domain error traps. -/
theorem traps_of_run (i : Instr) (s : State) (rd : RegNum) (e : DomainError)
    (he : exec i s = runCommand i rd (.error e) s) (hw : i.wellFormed = true) : TrapsDomain i s e.arg e.comp e.val :=
  ⟨_, he.trans (runCommand_error _ _ _ _ hw), faulted_enterFault ..⟩
/-- The state in which a float conversion runs (40_conversion.md R140; assumption log 6). -/
theorem forConversion_cases (s : State) (w : Family) (v : Option Int) :
    s.forConversion w v = s ∨ s.forConversion w v = s.takeDraw := by
  unfold State.forConversion
  split
  · exact .inl rfl
  · exact .inr rfl

theorem runs_nop (s : State) : Runs (.nop) s :=
  runs_intro _ s _ rfl (sound_ok _ _ _ rfl)

theorem runs_mov (w : Family) (vl : VLen) (rd rs1 : RegNum) (s : State) : Runs (.mov w vl rd rs1) s :=
  runs_intro _ s _ rfl (sound_components _ _ _ _ _ (vlen_le vl) (vlen_count vl) (vlen_count vl)
    (no_error _ _ _))

theorem runs_const (w : Family) (rd k : RegNum) (s : State) : Runs (.const w rd k) s :=
  runs_intro _ s _ rfl (sound_total _ _ _ _ rfl)

theorem runs_widen (vl : VLen) (rd rs1 : RegNum) (s : State) : Runs (.widen vl rd rs1) s :=
  runs_intro _ s _ rfl (sound_components _ _ _ _ _ (vlen_le vl) (vlen_count vl) (vlen_count vl)
    (no_error _ _ _))

theorem runs_narrow (vl : VLen) (rd rs1 : RegNum) (s : State) : Runs (.narrow vl rd rs1) s :=
  runs_intro _ s _ rfl (sound_components _ _ _ _ _ (vlen_le vl) (vlen_count vl) (vlen_count vl)
    (no_error _ _ _))

theorem runs_fromint (w : Family) (rd rs1 : RegNum) (s : State) : Runs (.fromint w rd rs1) s :=
  runs_intro _ s _ rfl (sound_total _ _ _ _ rfl)

theorem runs_floor (w : Family) (rd rs1 : RegNum) (s : State) : Runs (.floor w rd rs1) s :=
  runs_intro _ s _ rfl (sound_total _ _ _ _ rfl)

theorem runs_ceil (w : Family) (rd rs1 : RegNum) (s : State) : Runs (.ceil w rd rs1) s :=
  runs_intro _ s _ rfl (sound_total _ _ _ _ rfl)

theorem runs_round (w : Family) (rd rs1 : RegNum) (s : State) : Runs (.round w rd rs1) s :=
  runs_intro _ s _ rfl (sound_total _ _ _ _ rfl)

theorem runs_fromf (w : Family) (rd rs1 : RegNum) (s : State) : Runs (.fromf w rd rs1) s :=
  ⟨_, _, rfl, (forConversion_cases s w (floatOperand w s rs1)).imp id fun h => ⟨rfl, h⟩, sound_total _ _ _ _ rfl⟩

theorem runs_fromd (w : Family) (rd rs1 : RegNum) (s : State) : Runs (.fromd w rd rs1) s :=
  ⟨_, _, rfl, (forConversion_cases s w (doubleOperand w s rs1)).imp id fun h => ⟨rfl, h⟩, sound_total _ _ _ _ rfl⟩

theorem runs_tof (w : Family) (rd rs1 : RegNum) (s : State) : Runs (.tof w rd rs1) s :=
  runs_intro _ s _ rfl (sound_ok _ _ _ rfl)

theorem runs_tod (w : Family) (rd rs1 : RegNum) (s : State) : Runs (.tod w rd rs1) s :=
  runs_intro _ s _ rfl (sound_ok _ _ _ rfl)

theorem runs_ratio (w : Family) (rd rs1 rs2 : RegNum) (s : State) : Runs (.ratio w rd rs1 rs2) s :=
  runs_intro _ s _ rfl (sound_single _ _ _ 2 _ rfl rfl (reports_ratioRaw ..))

theorem runs_cmp (w : Family) (rd rs1 rs2 : RegNum) (s : State) : Runs (.cmp w rd rs1 rs2) s :=
  runs_intro _ s _ rfl (sound_total _ _ _ _ rfl)

theorem runs_add (w : Family) (vl : VLen) (sb : Bool) (rd rs1 rs2 : RegNum) (s : State) : Runs (.add w vl sb rd rs1 rs2) s :=
  runs_intro _ s _ rfl (sound_components _ _ _ _ _ (vlen_le vl) (vlen_count vl) (vlen_count vl)
    (no_error _ _ _))

theorem runs_sub (w : Family) (vl : VLen) (sb : Bool) (rd rs1 rs2 : RegNum) (s : State) : Runs (.sub w vl sb rd rs1 rs2) s :=
  runs_intro _ s _ rfl (sound_components _ _ _ _ _ (vlen_le vl) (vlen_count vl) (vlen_count vl)
    (no_error _ _ _))

theorem runs_mul (w : Family) (vl : VLen) (sb : Bool) (rd rs1 rs2 : RegNum) (s : State) : Runs (.mul w vl sb rd rs1 rs2) s :=
  runs_intro _ s _ rfl (sound_components _ _ _ _ _ (vlen_le vl) (vlen_count vl) (vlen_count vl)
    (no_error _ _ _))

theorem runs_div (w : Family) (vl : VLen) (sb : Bool) (rd rs1 rs2 : RegNum) (s : State) : Runs (.div w vl sb rd rs1 rs2) s :=
  runs_intro _ s _ rfl (sound_components _ _ _ _ _ (vlen_le vl) (vlen_count vl) (vlen_count vl)
    (error_of_reports _ _ 2 rfl _ fun _ => reports_divApprox ..))

theorem runs_divFast (w : Family) (vl : VLen) (sb : Bool) (rd rs1 rs2 : RegNum) (s : State) : Runs (.divFast w vl sb rd rs1 rs2) s :=
  runs_intro _ s _ rfl (sound_components _ _ _ _ _ (vlen_le vl) (vlen_count vl) (vlen_count vl)
    (error_of_reports _ _ 2 rfl _ fun _ => reports_divApprox ..))

theorem runs_divFastest (w : Family) (vl : VLen) (sb : Bool) (rd rs1 rs2 : RegNum) (s : State) : Runs (.divFastest w vl sb rd rs1 rs2) s :=
  runs_intro _ s _ rfl (sound_components _ _ _ _ _ (vlen_le vl) (vlen_count vl) (vlen_count vl)
    (error_of_reports _ _ 2 rfl _ fun _ => reports_divApprox ..))

theorem runs_divPrecise (w : Family) (vl : VLen) (sb : Bool) (rd rs1 rs2 : RegNum) (s : State) : Runs (.divPrecise w vl sb rd rs1 rs2) s :=
  runs_intro _ s _ rfl (sound_components _ _ _ _ _ (vlen_le vl) (vlen_count vl) (vlen_count vl)
    (error_of_reports _ _ 2 rfl _ fun _ => reports_divPreciseRaw ..))

theorem runs_mod (w : Family) (vl : VLen) (sb : Bool) (rd rs1 rs2 : RegNum) (s : State) : Runs (.mod w vl sb rd rs1 rs2) s :=
  runs_intro _ s _ rfl (sound_components _ _ _ _ _ (vlen_le vl) (vlen_count vl) (vlen_count vl)
    (error_of_reports _ _ 2 rfl _ fun _ => reports_modRaw ..))

theorem runs_neg (w : Family) (rd rs1 : RegNum) (s : State) : Runs (.neg w rd rs1) s :=
  runs_intro _ s _ rfl (sound_total _ _ _ _ rfl)

theorem runs_abs (w : Family) (rd rs1 : RegNum) (s : State) : Runs (.abs w rd rs1) s :=
  runs_intro _ s _ rfl (sound_total _ _ _ _ rfl)

theorem runs_min (w : Family) (rd rs1 rs2 : RegNum) (s : State) : Runs (.min w rd rs1 rs2) s :=
  runs_intro _ s _ rfl (sound_total _ _ _ _ rfl)

theorem runs_max (w : Family) (rd rs1 rs2 : RegNum) (s : State) : Runs (.max w rd rs1 rs2) s :=
  runs_intro _ s _ rfl (sound_total _ _ _ _ rfl)

theorem runs_clamp (w : Family) (vl : VLen) (sb : Bool) (rd rs1 rs2 rs3 : RegNum) (s : State) : Runs (.clamp w vl sb rd rs1 rs2 rs3) s :=
  runs_intro _ s _ rfl (sound_components _ _ _ _ _ (vlen_le vl) (vlen_count vl) (vlen_count vl)
    (no_error _ _ _))

theorem runs_lerp (w : Family) (vl : VLen) (rd rs1 rs2 rs3 : RegNum) (s : State) : Runs (.lerp w vl rd rs1 rs2 rs3) s :=
  runs_intro _ s _ rfl (sound_components _ _ _ _ _ (vlen_le vl) (vlen_count vl) (vlen_count vl)
    (no_error _ _ _))

theorem runs_sqrt (w : Family) (rd rs1 : RegNum) (s : State) : Runs (.sqrt w rd rs1) s :=
  runs_intro _ s _ rfl (sound_single _ _ _ 1 _ rfl rfl (reports_sqrtApprox ..))

theorem runs_sqrtFast (w : Family) (rd rs1 : RegNum) (s : State) : Runs (.sqrtFast w rd rs1) s :=
  runs_intro _ s _ rfl (sound_single _ _ _ 1 _ rfl rfl (reports_sqrtApprox ..))

theorem runs_sqrtFastest (w : Family) (rd rs1 : RegNum) (s : State) : Runs (.sqrtFastest w rd rs1) s :=
  runs_intro _ s _ rfl (sound_single _ _ _ 1 _ rfl rfl (reports_sqrtApprox ..))

theorem runs_sqrtPrecise (w : Family) (rd rs1 : RegNum) (s : State) : Runs (.sqrtPrecise w rd rs1) s :=
  runs_intro _ s _ rfl (sound_single _ _ _ 1 _ rfl rfl (reports_sqrtPreciseRaw ..))

theorem runs_rsqrt (w : Family) (rd rs1 : RegNum) (s : State) : Runs (.rsqrt w rd rs1) s :=
  runs_intro _ s _ rfl (sound_single _ _ _ 1 _ rfl rfl (reports_rsqrtApprox ..))

theorem runs_rsqrtFast (w : Family) (rd rs1 : RegNum) (s : State) : Runs (.rsqrtFast w rd rs1) s :=
  runs_intro _ s _ rfl (sound_single _ _ _ 1 _ rfl rfl (reports_rsqrtApprox ..))

theorem runs_rsqrtFastest (w : Family) (rd rs1 : RegNum) (s : State) : Runs (.rsqrtFastest w rd rs1) s :=
  runs_intro _ s _ rfl (sound_single _ _ _ 1 _ rfl rfl (reports_rsqrtApprox ..))

theorem runs_rcp (w : Family) (rd rs1 : RegNum) (s : State) : Runs (.rcp w rd rs1) s :=
  runs_intro _ s _ rfl (sound_single _ _ _ 1 _ rfl rfl (reports_rcpApprox ..))

theorem runs_rcpFast (w : Family) (rd rs1 : RegNum) (s : State) : Runs (.rcpFast w rd rs1) s :=
  runs_intro _ s _ rfl (sound_single _ _ _ 1 _ rfl rfl (reports_rcpApprox ..))

theorem runs_rcpFastest (w : Family) (rd rs1 : RegNum) (s : State) : Runs (.rcpFastest w rd rs1) s :=
  runs_intro _ s _ rfl (sound_single _ _ _ 1 _ rfl rfl (reports_rcpApprox ..))

theorem runs_exp2 (w : Family) (rd rs1 : RegNum) (s : State) : Runs (.exp2 w rd rs1) s :=
  runs_intro _ s _ rfl (sound_total _ _ _ _ rfl)

theorem runs_exp2Fast (w : Family) (rd rs1 : RegNum) (s : State) : Runs (.exp2Fast w rd rs1) s :=
  runs_intro _ s _ rfl (sound_total _ _ _ _ rfl)

theorem runs_exp2Fastest (w : Family) (rd rs1 : RegNum) (s : State) : Runs (.exp2Fastest w rd rs1) s :=
  runs_intro _ s _ rfl (sound_total _ _ _ _ rfl)

theorem runs_log2 (w : Family) (rd rs1 : RegNum) (s : State) : Runs (.log2 w rd rs1) s :=
  runs_intro _ s _ rfl (sound_single _ _ _ 1 _ rfl rfl (reports_log2Approx ..))

theorem runs_log2Fast (w : Family) (rd rs1 : RegNum) (s : State) : Runs (.log2Fast w rd rs1) s :=
  runs_intro _ s _ rfl (sound_single _ _ _ 1 _ rfl rfl (reports_log2Approx ..))

theorem runs_log2Fastest (w : Family) (rd rs1 : RegNum) (s : State) : Runs (.log2Fastest w rd rs1) s :=
  runs_intro _ s _ rfl (sound_single _ _ _ 1 _ rfl rfl (reports_log2Approx ..))

theorem runs_exp (w : Family) (rd rs1 : RegNum) (s : State) : Runs (.exp w rd rs1) s :=
  runs_intro _ s _ rfl (sound_total _ _ _ _ rfl)

theorem runs_expFast (w : Family) (rd rs1 : RegNum) (s : State) : Runs (.expFast w rd rs1) s :=
  runs_intro _ s _ rfl (sound_total _ _ _ _ rfl)

theorem runs_expFastest (w : Family) (rd rs1 : RegNum) (s : State) : Runs (.expFastest w rd rs1) s :=
  runs_intro _ s _ rfl (sound_total _ _ _ _ rfl)

theorem runs_log (w : Family) (rd rs1 : RegNum) (s : State) : Runs (.log w rd rs1) s :=
  runs_intro _ s _ rfl (sound_single _ _ _ 1 _ rfl rfl (reports_logApprox ..))

theorem runs_logFast (w : Family) (rd rs1 : RegNum) (s : State) : Runs (.logFast w rd rs1) s :=
  runs_intro _ s _ rfl (sound_single _ _ _ 1 _ rfl rfl (reports_logApprox ..))

theorem runs_logFastest (w : Family) (rd rs1 : RegNum) (s : State) : Runs (.logFastest w rd rs1) s :=
  runs_intro _ s _ rfl (sound_single _ _ _ 1 _ rfl rfl (reports_logApprox ..))

theorem runs_pow (w : Family) (rd rs1 rs2 : RegNum) (s : State) : Runs (.pow w rd rs1 rs2) s :=
  runs_intro _ s _ rfl (sound_single _ _ _ 1 _ rfl rfl (reports_powApprox ..))

theorem runs_powFast (w : Family) (rd rs1 rs2 : RegNum) (s : State) : Runs (.powFast w rd rs1 rs2) s :=
  runs_intro _ s _ rfl (sound_single _ _ _ 1 _ rfl rfl (reports_powApprox ..))

theorem runs_powFastest (w : Family) (rd rs1 rs2 : RegNum) (s : State) : Runs (.powFastest w rd rs1 rs2) s :=
  runs_intro _ s _ rfl (sound_single _ _ _ 1 _ rfl rfl (reports_powApprox ..))

theorem runs_sin (w : Family) (rd rs1 : RegNum) (s : State) : Runs (.sin w rd rs1) s :=
  runs_intro _ s _ rfl (sound_total _ _ _ _ rfl)

theorem runs_sinFast (w : Family) (rd rs1 : RegNum) (s : State) : Runs (.sinFast w rd rs1) s :=
  runs_intro _ s _ rfl (sound_total _ _ _ _ rfl)

theorem runs_sinFastest (w : Family) (rd rs1 : RegNum) (s : State) : Runs (.sinFastest w rd rs1) s :=
  runs_intro _ s _ rfl (sound_total _ _ _ _ rfl)

theorem runs_cos (w : Family) (rd rs1 : RegNum) (s : State) : Runs (.cos w rd rs1) s :=
  runs_intro _ s _ rfl (sound_total _ _ _ _ rfl)

theorem runs_cosFast (w : Family) (rd rs1 : RegNum) (s : State) : Runs (.cosFast w rd rs1) s :=
  runs_intro _ s _ rfl (sound_total _ _ _ _ rfl)

theorem runs_cosFastest (w : Family) (rd rs1 : RegNum) (s : State) : Runs (.cosFastest w rd rs1) s :=
  runs_intro _ s _ rfl (sound_total _ _ _ _ rfl)

theorem runs_tan (w : Family) (rd rs1 : RegNum) (s : State) : Runs (.tan w rd rs1) s :=
  runs_intro _ s _ rfl (sound_total _ _ _ _ rfl)

theorem runs_tanFast (w : Family) (rd rs1 : RegNum) (s : State) : Runs (.tanFast w rd rs1) s :=
  runs_intro _ s _ rfl (sound_total _ _ _ _ rfl)

theorem runs_tanFastest (w : Family) (rd rs1 : RegNum) (s : State) : Runs (.tanFastest w rd rs1) s :=
  runs_intro _ s _ rfl (sound_total _ _ _ _ rfl)

theorem runs_atan2 (w : Family) (rd rs1 rs2 : RegNum) (s : State) : Runs (.atan2 w rd rs1 rs2) s :=
  runs_intro _ s _ rfl (sound_total _ _ _ _ rfl)

theorem runs_atan2Fast (w : Family) (rd rs1 rs2 : RegNum) (s : State) : Runs (.atan2Fast w rd rs1 rs2) s :=
  runs_intro _ s _ rfl (sound_total _ _ _ _ rfl)

theorem runs_atan2Fastest (w : Family) (rd rs1 rs2 : RegNum) (s : State) : Runs (.atan2Fastest w rd rs1 rs2) s :=
  runs_intro _ s _ rfl (sound_total _ _ _ _ rfl)

theorem runs_asin (w : Family) (rd rs1 : RegNum) (s : State) : Runs (.asin w rd rs1) s :=
  runs_intro _ s _ rfl (sound_single _ _ _ 1 _ rfl rfl (reports_asinApprox ..))

theorem runs_asinFast (w : Family) (rd rs1 : RegNum) (s : State) : Runs (.asinFast w rd rs1) s :=
  runs_intro _ s _ rfl (sound_single _ _ _ 1 _ rfl rfl (reports_asinApprox ..))

theorem runs_asinFastest (w : Family) (rd rs1 : RegNum) (s : State) : Runs (.asinFastest w rd rs1) s :=
  runs_intro _ s _ rfl (sound_single _ _ _ 1 _ rfl rfl (reports_asinApprox ..))

theorem runs_acos (w : Family) (rd rs1 : RegNum) (s : State) : Runs (.acos w rd rs1) s :=
  runs_intro _ s _ rfl (sound_single _ _ _ 1 _ rfl rfl (reports_acosApprox ..))

theorem runs_acosFast (w : Family) (rd rs1 : RegNum) (s : State) : Runs (.acosFast w rd rs1) s :=
  runs_intro _ s _ rfl (sound_single _ _ _ 1 _ rfl rfl (reports_acosApprox ..))

theorem runs_acosFastest (w : Family) (rd rs1 : RegNum) (s : State) : Runs (.acosFastest w rd rs1) s :=
  runs_intro _ s _ rfl (sound_single _ _ _ 1 _ rfl rfl (reports_acosApprox ..))

theorem runs_dot (w : Family) (vl : VLen) (rd rs1 rs2 : RegNum) (s : State) : Runs (.dot w vl rd rs1 rs2) s :=
  runs_intro _ s _ rfl (sound_total _ _ _ _ rfl)

theorem runs_cross (w : Family) (rd rs1 rs2 : RegNum) (s : State) : Runs (.cross w rd rs1 rs2) s :=
  runs_intro _ s _ rfl (sound_ok _ _ _ rfl)

theorem runs_lensqr (w : Family) (vl : VLen) (rd rs1 : RegNum) (s : State) : Runs (.lensqr w vl rd rs1) s :=
  runs_intro _ s _ rfl (sound_total _ _ _ _ rfl)

theorem runs_lensqrw (vl : VLen) (rd rs1 : RegNum) (s : State) : Runs (.lensqrw vl rd rs1) s :=
  runs_intro _ s _ rfl (sound_total _ _ _ _ rfl)

theorem runs_length (w : Family) (vl : VLen) (rd rs1 : RegNum) (s : State) : Runs (.length w vl rd rs1) s :=
  runs_intro _ s _ rfl (sound_single _ _ _ 0 _ rfl rfl (reports_lengthApprox ..))

theorem runs_lengthFast (w : Family) (vl : VLen) (rd rs1 : RegNum) (s : State) : Runs (.lengthFast w vl rd rs1) s :=
  runs_intro _ s _ rfl (sound_single _ _ _ 0 _ rfl rfl (reports_lengthApprox ..))

theorem runs_lengthFastest (w : Family) (vl : VLen) (rd rs1 : RegNum) (s : State) : Runs (.lengthFastest w vl rd rs1) s :=
  runs_intro _ s _ rfl (sound_single _ _ _ 0 _ rfl rfl (reports_lengthApprox ..))

theorem runs_lengthPrecise (w : Family) (vl : VLen) (rd rs1 : RegNum) (s : State) : Runs (.lengthPrecise w vl rd rs1) s :=
  runs_intro _ s _ rfl (sound_single _ _ _ 0 _ rfl rfl (reports_lengthPreciseRaw ..))

theorem runs_norm (w : Family) (vl : VLen) (rd rs1 : RegNum) (s : State) : Runs (.norm w vl rd rs1) s :=
  runs_intro _ s _ rfl (sound_group _ _ _ 0 _
    (fun vs h => by rw [length_normApprox _ _ _ _ vs h, length_opnds]; exact (vlen_count vl).symm) rfl (reports_normApprox ..))

theorem runs_normFast (w : Family) (vl : VLen) (rd rs1 : RegNum) (s : State) : Runs (.normFast w vl rd rs1) s :=
  runs_intro _ s _ rfl (sound_group _ _ _ 0 _
    (fun vs h => by rw [length_normApprox _ _ _ _ vs h, length_opnds]; exact (vlen_count vl).symm) rfl (reports_normApprox ..))

theorem runs_normFastest (w : Family) (vl : VLen) (rd rs1 : RegNum) (s : State) : Runs (.normFastest w vl rd rs1) s :=
  runs_intro _ s _ rfl (sound_group _ _ _ 0 _
    (fun vs h => by rw [length_normApprox _ _ _ _ vs h, length_opnds]; exact (vlen_count vl).symm) rfl (reports_normApprox ..))

theorem runs_clamplen (w : Family) (vl : VLen) (rd rs1 rs2 : RegNum) (s : State) : Runs (.clamplen w vl rd rs1 rs2) s :=
  runs_intro _ s _ rfl (sound_group _ _ _ 0 _
    (fun vs h => by rw [length_clampLenApprox _ _ _ _ vs _ h, length_opnds]; exact (vlen_count vl).symm) rfl (reports_clampLenApprox ..))

theorem runs_clamplenFast (w : Family) (vl : VLen) (rd rs1 rs2 : RegNum) (s : State) : Runs (.clamplenFast w vl rd rs1 rs2) s :=
  runs_intro _ s _ rfl (sound_group _ _ _ 0 _
    (fun vs h => by rw [length_clampLenApprox _ _ _ _ vs _ h, length_opnds]; exact (vlen_count vl).symm) rfl (reports_clampLenApprox ..))

theorem runs_clamplenFastest (w : Family) (vl : VLen) (rd rs1 rs2 : RegNum) (s : State) : Runs (.clamplenFastest w vl rd rs1 rs2) s :=
  runs_intro _ s _ rfl (sound_group _ _ _ 0 _
    (fun vs h => by rw [length_clampLenApprox _ _ _ _ vs _ h, length_opnds]; exact (vlen_count vl).symm) rfl (reports_clampLenApprox ..))

/-- Every command, in every state. -/
theorem exec_runs (i : Instr) (s : State) : Runs i s := by
  cases i with
  | nop => exact runs_nop s
  | mov w vl rd rs1 => exact runs_mov _ _ _ _ s
  | const w rd k => exact runs_const _ _ _ s
  | widen vl rd rs1 => exact runs_widen _ _ _ s
  | narrow vl rd rs1 => exact runs_narrow _ _ _ s
  | fromint w rd rs1 => exact runs_fromint _ _ _ s
  | floor w rd rs1 => exact runs_floor _ _ _ s
  | ceil w rd rs1 => exact runs_ceil _ _ _ s
  | round w rd rs1 => exact runs_round _ _ _ s
  | fromf w rd rs1 => exact runs_fromf _ _ _ s
  | fromd w rd rs1 => exact runs_fromd _ _ _ s
  | tof w rd rs1 => exact runs_tof _ _ _ s
  | tod w rd rs1 => exact runs_tod _ _ _ s
  | ratio w rd rs1 rs2 => exact runs_ratio _ _ _ _ s
  | cmp w rd rs1 rs2 => exact runs_cmp _ _ _ _ s
  | add w vl sb rd rs1 rs2 => exact runs_add _ _ _ _ _ _ s
  | sub w vl sb rd rs1 rs2 => exact runs_sub _ _ _ _ _ _ s
  | mul w vl sb rd rs1 rs2 => exact runs_mul _ _ _ _ _ _ s
  | div w vl sb rd rs1 rs2 => exact runs_div _ _ _ _ _ _ s
  | divFast w vl sb rd rs1 rs2 => exact runs_divFast _ _ _ _ _ _ s
  | divFastest w vl sb rd rs1 rs2 => exact runs_divFastest _ _ _ _ _ _ s
  | divPrecise w vl sb rd rs1 rs2 => exact runs_divPrecise _ _ _ _ _ _ s
  | mod w vl sb rd rs1 rs2 => exact runs_mod _ _ _ _ _ _ s
  | neg w rd rs1 => exact runs_neg _ _ _ s
  | abs w rd rs1 => exact runs_abs _ _ _ s
  | min w rd rs1 rs2 => exact runs_min _ _ _ _ s
  | max w rd rs1 rs2 => exact runs_max _ _ _ _ s
  | clamp w vl sb rd rs1 rs2 rs3 => exact runs_clamp _ _ _ _ _ _ _ s
  | lerp w vl rd rs1 rs2 rs3 => exact runs_lerp _ _ _ _ _ _ s
  | sqrt w rd rs1 => exact runs_sqrt _ _ _ s
  | sqrtFast w rd rs1 => exact runs_sqrtFast _ _ _ s
  | sqrtFastest w rd rs1 => exact runs_sqrtFastest _ _ _ s
  | sqrtPrecise w rd rs1 => exact runs_sqrtPrecise _ _ _ s
  | rsqrt w rd rs1 => exact runs_rsqrt _ _ _ s
  | rsqrtFast w rd rs1 => exact runs_rsqrtFast _ _ _ s
  | rsqrtFastest w rd rs1 => exact runs_rsqrtFastest _ _ _ s
  | rcp w rd rs1 => exact runs_rcp _ _ _ s
  | rcpFast w rd rs1 => exact runs_rcpFast _ _ _ s
  | rcpFastest w rd rs1 => exact runs_rcpFastest _ _ _ s
  | exp2 w rd rs1 => exact runs_exp2 _ _ _ s
  | exp2Fast w rd rs1 => exact runs_exp2Fast _ _ _ s
  | exp2Fastest w rd rs1 => exact runs_exp2Fastest _ _ _ s
  | log2 w rd rs1 => exact runs_log2 _ _ _ s
  | log2Fast w rd rs1 => exact runs_log2Fast _ _ _ s
  | log2Fastest w rd rs1 => exact runs_log2Fastest _ _ _ s
  | exp w rd rs1 => exact runs_exp _ _ _ s
  | expFast w rd rs1 => exact runs_expFast _ _ _ s
  | expFastest w rd rs1 => exact runs_expFastest _ _ _ s
  | log w rd rs1 => exact runs_log _ _ _ s
  | logFast w rd rs1 => exact runs_logFast _ _ _ s
  | logFastest w rd rs1 => exact runs_logFastest _ _ _ s
  | pow w rd rs1 rs2 => exact runs_pow _ _ _ _ s
  | powFast w rd rs1 rs2 => exact runs_powFast _ _ _ _ s
  | powFastest w rd rs1 rs2 => exact runs_powFastest _ _ _ _ s
  | sin w rd rs1 => exact runs_sin _ _ _ s
  | sinFast w rd rs1 => exact runs_sinFast _ _ _ s
  | sinFastest w rd rs1 => exact runs_sinFastest _ _ _ s
  | cos w rd rs1 => exact runs_cos _ _ _ s
  | cosFast w rd rs1 => exact runs_cosFast _ _ _ s
  | cosFastest w rd rs1 => exact runs_cosFastest _ _ _ s
  | tan w rd rs1 => exact runs_tan _ _ _ s
  | tanFast w rd rs1 => exact runs_tanFast _ _ _ s
  | tanFastest w rd rs1 => exact runs_tanFastest _ _ _ s
  | atan2 w rd rs1 rs2 => exact runs_atan2 _ _ _ _ s
  | atan2Fast w rd rs1 rs2 => exact runs_atan2Fast _ _ _ _ s
  | atan2Fastest w rd rs1 rs2 => exact runs_atan2Fastest _ _ _ _ s
  | asin w rd rs1 => exact runs_asin _ _ _ s
  | asinFast w rd rs1 => exact runs_asinFast _ _ _ s
  | asinFastest w rd rs1 => exact runs_asinFastest _ _ _ s
  | acos w rd rs1 => exact runs_acos _ _ _ s
  | acosFast w rd rs1 => exact runs_acosFast _ _ _ s
  | acosFastest w rd rs1 => exact runs_acosFastest _ _ _ s
  | dot w vl rd rs1 rs2 => exact runs_dot _ _ _ _ _ s
  | cross w rd rs1 rs2 => exact runs_cross _ _ _ _ s
  | lensqr w vl rd rs1 => exact runs_lensqr _ _ _ _ s
  | lensqrw vl rd rs1 => exact runs_lensqrw _ _ _ s
  | length w vl rd rs1 => exact runs_length _ _ _ _ s
  | lengthFast w vl rd rs1 => exact runs_lengthFast _ _ _ _ s
  | lengthFastest w vl rd rs1 => exact runs_lengthFastest _ _ _ _ s
  | lengthPrecise w vl rd rs1 => exact runs_lengthPrecise _ _ _ _ s
  | norm w vl rd rs1 => exact runs_norm _ _ _ _ s
  | normFast w vl rd rs1 => exact runs_normFast _ _ _ _ s
  | normFastest w vl rd rs1 => exact runs_normFastest _ _ _ _ s
  | clamplen w vl rd rs1 rs2 => exact runs_clamplen _ _ _ _ _ s
  | clamplenFast w vl rd rs1 rs2 => exact runs_clamplenFast _ _ _ _ _ s
  | clamplenFastest w vl rd rs1 rs2 => exact runs_clamplenFastest _ _ _ _ _ s

end Sys2Proof.Machine
end

