-- ==== Sys2Proof/Laws/Numbers.lean ====
section
/-! SUPPORT. The integer notation: wraparound, operands and results, the exact root, and the two properties of
the tables that hold by construction. -/

namespace Sys2Proof.Machine

/-- A wrapped value is in range: `-2^(n-1) <= wrap_n(v) < 2^(n-1)` (00_scope.md R11). -/
theorem wrap_range (n : Nat) (hn : 0 < n) (v : Int) : -2 ^ (n - 1) ≤ wrap n v ∧ wrap n v < 2 ^ (n - 1) := by
  obtain ⟨m, rfl⟩ : ∃ m, n = m + 1 := ⟨n - 1, by omega⟩
  have e : (2 : Nat) ^ (m + 1) = 2 * 2 ^ m := pow_succ' 2 m
  have hp : (0 : Nat) < 2 * 2 ^ m := by positivity
  have h1 := Int.le_bmod (x := v) hp
  have h2 := Int.bmod_lt (x := v) hp
  simp only [wrap, Nat.add_sub_cancel, e]
  push_cast at h1 h2
  constructor <;> omega

/-- A value in range is its own wrap (00_scope.md R11). -/
theorem wrap_of_range (n : Nat) (hn : 0 < n) (v : Int) (h1 : -2 ^ (n - 1) ≤ v) (h2 : v < 2 ^ (n - 1)) :
    wrap n v = v := by
  obtain ⟨m, rfl⟩ : ∃ m, n = m + 1 := ⟨n - 1, by omega⟩
  simp only [wrap, Nat.add_sub_cancel] at *
  apply Int.bmod_eq_of_le_mul_two <;> push_cast <;> rw [pow_succ] <;> omega

/-- Wrapping twice is wrapping once. -/
@[simp] theorem wrap_wrap (n : Nat) (v : Int) : wrap n (wrap n v) = wrap n v := by simp [wrap]

/-- A wrapped value is congruent to the value modulo 2^n (00_scope.md R11). -/
theorem wrap_emod (n : Nat) (v : Int) : wrap n v % 2 ^ n = v % 2 ^ n := by
  have := Int.bmod_emod (x := v) (m := 2 ^ n)
  simpa [wrap] using this

/-- Values congruent modulo 2^n wrap to the same. -/
theorem wrap_congr (n : Nat) (u v : Int) (h : u % 2 ^ n = v % 2 ^ n) : wrap n u = wrap n v := by
  unfold wrap
  rw [← Int.emod_bmod u, ← Int.emod_bmod v]
  push_cast
  rw [h]

/-- An operand is in the raw range of its family (00_scope.md R12). -/
theorem opnd_range (w : Family) (s : State) (r : RegNum) : minRaw w ≤ opnd w s r ∧ opnd w s r ≤ maxRaw w := by
  cases w
  · have h1 := BitVec.toInt_lt (x := (s.readReg r).setWidth 32)
    have h2 := BitVec.le_toInt (x := (s.readReg r).setWidth 32)
    simp only [opnd, minRaw, maxRaw, Family.bits]
    norm_num at *
    omega
  · have h1 := BitVec.toInt_lt (x := (s.readReg r).setWidth 64)
    have h2 := BitVec.le_toInt (x := (s.readReg r).setWidth 64)
    simp only [opnd, minRaw, maxRaw, Family.bits]
    norm_num at *
    omega

/-- The result patterns of values that wrap alike are the same (00_scope.md R12). -/
theorem result_wrap (w : Family) (v : Int) : result w (wrap w.bits v) = result w v := by
  cases w <;>
  · simp only [result, wrap, Family.bits]
    congr 1
    apply BitVec.eq_of_toInt_eq
    simp

/-- A result pattern read back as an operand of its family is the wrapped value (00_scope.md R12). -/
theorem result_toInt (w : Family) (v : Int) : ((result w v).setWidth w.bits).toInt = wrap w.bits v := by
  cases w
  · have h : ((BitVec.ofInt 32 v).signExtend 64).setWidth 32 = BitVec.ofInt 32 v := by
      apply BitVec.eq_of_getLsbD_eq
      intro i hi
      simp [BitVec.getLsbD_signExtend, hi]
      omega
    simp only [result, Family.bits, wrap]
    rw [h, BitVec.toInt_ofInt]
  · simp [result, Family.bits, wrap]

/-- A family-W operand read after its register was written is the wrapped value that was written. -/
theorem opnd_of_readReg (w : Family) (s : State) (r : RegNum) (v : Int) (h : s.readReg r = result w v) :
    opnd w s r = wrap w.bits v := by
  unfold opnd
  rw [h, result_toInt]

/-- The loop keeps `r * r <= m` and answers the largest root below `r + 2^k`. -/
theorem isqrtLoop_spec (k m r : Nat) (h1 : r * r ≤ m) (h2 : m < (r + 2 ^ k) * (r + 2 ^ k)) :
    isqrtLoop k m r * isqrtLoop k m r ≤ m ∧ m < (isqrtLoop k m r + 1) * (isqrtLoop k m r + 1) := by
  induction k generalizing r with
  | zero => simpa [isqrtLoop] using ⟨h1, h2⟩
  | succ k ih =>
    unfold isqrtLoop
    split
    · rename_i h
      apply ih _ h
      rw [pow_succ] at h2
      have e : r + 2 ^ k + 2 ^ k = r + 2 ^ k * 2 := by ring
      rw [e]
      exact h2
    · rename_i h
      exact ih _ h1 (by omega)

/-- `isqrt(m)` is the floor of the root for every radicand below 2^96 (42_sqrt_rcp.md R210). -/
theorem isqrt_spec (m : Nat) (h : m < 2 ^ 96) : isqrt m * isqrt m ≤ m ∧ m < (isqrt m + 1) * (isqrt m + 1) :=
  isqrtLoop_spec 48 m 0 (by omega) (by norm_num; omega)

/-- A table's answer is in the raw range of its family (10_state.md R37). -/
theorem table_range (w : Family) (v : BitVec w.bits) : minRaw w ≤ v.toInt ∧ v.toInt ≤ maxRaw w := by
  cases w <;>
  · have h1 := BitVec.toInt_lt (x := v)
    have h2 := BitVec.le_toInt (x := v)
    simp only [minRaw, maxRaw, Family.bits] at *
    norm_num at *
    omega

/-- Negating twice with wraparound gives a value in range back. -/
theorem negW_negW (w : Family) (v : Int) (h : minRaw w ≤ v ∧ v ≤ maxRaw w) : negW w (negW w v) = v := by
  have e : negW w (negW w v) = wrap w.bits v := by
    unfold negW wrap
    simp
  rw [e]
  cases w <;>
  · apply wrap_of_range _ (by simp)
    · simp only [minRaw, maxRaw, Family.bits] at *; omega
    · simp only [minRaw, maxRaw, Family.bits] at *; omega

/-- SIN-ODD holds of every unit (43_transcendental.md R285). -/
theorem sinOdd (b : Build) (w : Family) (t : Tier) : SinOdd b w t := by
  intro a ha hm
  have hmin : minRaw w < 0 := by cases w <;> simp [minRaw]
  have hsym : minRaw w = -(maxRaw w) - 1 := by cases w <;> simp [minRaw, maxRaw]
  simp only [inRaw, Bool.and_eq_true, decide_eq_true_eq] at ha
  rcases lt_trichotomy a 0 with h | h | h
  · have h1 : ¬ a = 0 := by omega
    have h2 : ¬ -a = 0 := by omega
    have h3 : ¬ (-a < 0) := by omega
    simp only [cfgSin, h1, h2, h3, h, hm, ne_eq, not_false_eq_true, and_self, if_true, if_false, false_and]
    rw [negW_negW _ _ (table_range _ _)]
  · subst h
    simp [cfgSin, negW, wrap]
  · have h1 : ¬ a = 0 := by omega
    have h2 : ¬ -a = 0 := by omega
    have h3 : -a < 0 := by omega
    have h4 : ¬ a < 0 := by omega
    have h5 : -a ≠ minRaw w := by omega
    simp only [cfgSin, h1, h2, h3, h4, h5, ne_eq, not_false_eq_true, and_self, if_true, if_false, false_and, neg_neg]

/-- ATAN2-AXIS holds of every unit (43_transcendental.md R287). -/
theorem atan2Axis (b : Build) (w : Family) (t : Tier) : Atan2Axis b w t := by
  have h : 0 < oneRaw b w := by unfold oneRaw; positivity
  have h1 : oneRaw b w ≠ 0 := by omega
  have h2 : -oneRaw b w ≠ 0 := by omega
  have h3 : -oneRaw b w ≠ oneRaw b w := by omega
  refine ⟨?_, ?_, ?_, ?_⟩ <;> simp [cfgAtan2, h1, h2, h3, Ne.symm h1, Ne.symm h2]

end Sys2Proof.Machine
end

