-- ==== Sys2Proof/Laws/PerInstr.lean ====
section
/-! SUPPORT. One lemma per constructor of Instr: the word of a command has the bits that its row of
spec/opcode_table.json fixes. -/

namespace Sys2Proof.Laws

/-- The "mask" column of spec/opcode_table.json: the bits that a command's row fixes. -/
def tableMask : Instr → Word32
  | .nop => 0xFFFFFFFF
  | .mov _ _ _ _ => 0xFFC009BF
  | .const _ _ _ => 0xFFE00FBF
  | .widen _ _ _ => 0xFFC009FF
  | .narrow _ _ _ => 0xFFC009FF
  | .fromint _ _ _ => 0xFFC00FBF
  | .floor _ _ _ => 0xFFC00FBF
  | .ceil _ _ _ => 0xFFC00FBF
  | .round _ _ _ => 0xFFC00FBF
  | .fromf _ _ _ => 0xFFC00FBF
  | .fromd _ _ _ => 0xFFC00FBF
  | .tof _ _ _ => 0xFFC00FBF
  | .tod _ _ _ => 0xFFC00FBF
  | .ratio _ _ _ _ => 0xF8000FBF
  | .cmp _ _ _ _ => 0xF8000FBF
  | .add _ _ _ _ _ _ => 0xF80001BF
  | .sub _ _ _ _ _ _ => 0xF80001BF
  | .mul _ _ _ _ _ _ => 0xF80001BF
  | .div _ _ _ _ _ _ => 0xF80001BF
  | .divFast _ _ _ _ _ _ => 0xF80001BF
  | .divFastest _ _ _ _ _ _ => 0xF80001BF
  | .divPrecise _ _ _ _ _ _ => 0xF80001BF
  | .mod _ _ _ _ _ _ => 0xF80001BF
  | .neg _ _ _ => 0xFFC00FBF
  | .abs _ _ _ => 0xFFC00FBF
  | .min _ _ _ _ => 0xF8000FBF
  | .max _ _ _ _ => 0xF8000FBF
  | .clamp _ _ _ _ _ _ _ => 0x000001BF
  | .lerp _ _ _ _ _ _ => 0x000009BF
  | .sqrt _ _ _ => 0xFFC00FBF
  | .sqrtFast _ _ _ => 0xFFC00FBF
  | .sqrtFastest _ _ _ => 0xFFC00FBF
  | .sqrtPrecise _ _ _ => 0xFFC00FBF
  | .rsqrt _ _ _ => 0xFFC00FBF
  | .rsqrtFast _ _ _ => 0xFFC00FBF
  | .rsqrtFastest _ _ _ => 0xFFC00FBF
  | .rcp _ _ _ => 0xFFC00FBF
  | .rcpFast _ _ _ => 0xFFC00FBF
  | .rcpFastest _ _ _ => 0xFFC00FBF
  | .exp2 _ _ _ => 0xFFC00FBF
  | .exp2Fast _ _ _ => 0xFFC00FBF
  | .exp2Fastest _ _ _ => 0xFFC00FBF
  | .log2 _ _ _ => 0xFFC00FBF
  | .log2Fast _ _ _ => 0xFFC00FBF
  | .log2Fastest _ _ _ => 0xFFC00FBF
  | .exp _ _ _ => 0xFFC00FBF
  | .expFast _ _ _ => 0xFFC00FBF
  | .expFastest _ _ _ => 0xFFC00FBF
  | .log _ _ _ => 0xFFC00FBF
  | .logFast _ _ _ => 0xFFC00FBF
  | .logFastest _ _ _ => 0xFFC00FBF
  | .pow _ _ _ _ => 0xF8000FBF
  | .powFast _ _ _ _ => 0xF8000FBF
  | .powFastest _ _ _ _ => 0xF8000FBF
  | .sin _ _ _ => 0xFFC00FBF
  | .sinFast _ _ _ => 0xFFC00FBF
  | .sinFastest _ _ _ => 0xFFC00FBF
  | .cos _ _ _ => 0xFFC00FBF
  | .cosFast _ _ _ => 0xFFC00FBF
  | .cosFastest _ _ _ => 0xFFC00FBF
  | .tan _ _ _ => 0xFFC00FBF
  | .tanFast _ _ _ => 0xFFC00FBF
  | .tanFastest _ _ _ => 0xFFC00FBF
  | .atan2 _ _ _ _ => 0xF8000FBF
  | .atan2Fast _ _ _ _ => 0xF8000FBF
  | .atan2Fastest _ _ _ _ => 0xF8000FBF
  | .asin _ _ _ => 0xFFC00FBF
  | .asinFast _ _ _ => 0xFFC00FBF
  | .asinFastest _ _ _ => 0xFFC00FBF
  | .acos _ _ _ => 0xFFC00FBF
  | .acosFast _ _ _ => 0xFFC00FBF
  | .acosFastest _ _ _ => 0xFFC00FBF
  | .dot _ _ _ _ _ => 0xF80009BF
  | .cross _ _ _ _ => 0xF8000FBF
  | .lensqr _ _ _ _ => 0xFFC009BF
  | .lensqrw _ _ _ => 0xFFC009FF
  | .length _ _ _ _ => 0xFFC009BF
  | .lengthFast _ _ _ _ => 0xFFC009BF
  | .lengthFastest _ _ _ _ => 0xFFC009BF
  | .lengthPrecise _ _ _ _ => 0xFFC009BF
  | .norm _ _ _ _ => 0xFFC009BF
  | .normFast _ _ _ _ => 0xFFC009BF
  | .normFastest _ _ _ _ => 0xFFC009BF
  | .clamplen _ _ _ _ _ => 0xF80009BF
  | .clamplenFast _ _ _ _ _ => 0xF80009BF
  | .clamplenFastest _ _ _ _ _ => 0xF80009BF

/-- The "match" column of spec/opcode_table.json: the values of those bits. -/
def tableMatch : Instr → Word32
  | .nop => 0x00000000
  | .mov _ _ _ _ => 0x00000001
  | .const _ _ _ => 0x00000002
  | .widen _ _ _ => 0x00000043
  | .narrow _ _ _ => 0x00000004
  | .fromint _ _ _ => 0x00000005
  | .floor _ _ _ => 0x00000006
  | .ceil _ _ _ => 0x00000007
  | .round _ _ _ => 0x00000008
  | .fromf _ _ _ => 0x00000009
  | .fromd _ _ _ => 0x0000000A
  | .tof _ _ _ => 0x0000000B
  | .tod _ _ _ => 0x0000000C
  | .ratio _ _ _ _ => 0x0000000D
  | .cmp _ _ _ _ => 0x0000000E
  | .add _ _ _ _ _ _ => 0x00000010
  | .sub _ _ _ _ _ _ => 0x00000011
  | .mul _ _ _ _ _ _ => 0x00000012
  | .div _ _ _ _ _ _ => 0x00000013
  | .divFast _ _ _ _ _ _ => 0x00000093
  | .divFastest _ _ _ _ _ _ => 0x00000113
  | .divPrecise _ _ _ _ _ _ => 0x00000193
  | .mod _ _ _ _ _ _ => 0x00000014
  | .neg _ _ _ => 0x00000015
  | .abs _ _ _ => 0x00000016
  | .min _ _ _ _ => 0x00000017
  | .max _ _ _ _ => 0x00000018
  | .clamp _ _ _ _ _ _ _ => 0x00000019
  | .lerp _ _ _ _ _ _ => 0x0000001A
  | .sqrt _ _ _ => 0x00000020
  | .sqrtFast _ _ _ => 0x000000A0
  | .sqrtFastest _ _ _ => 0x00000120
  | .sqrtPrecise _ _ _ => 0x000001A0
  | .rsqrt _ _ _ => 0x00000021
  | .rsqrtFast _ _ _ => 0x000000A1
  | .rsqrtFastest _ _ _ => 0x00000121
  | .rcp _ _ _ => 0x00000022
  | .rcpFast _ _ _ => 0x000000A2
  | .rcpFastest _ _ _ => 0x00000122
  | .exp2 _ _ _ => 0x00000028
  | .exp2Fast _ _ _ => 0x000000A8
  | .exp2Fastest _ _ _ => 0x00000128
  | .log2 _ _ _ => 0x00000029
  | .log2Fast _ _ _ => 0x000000A9
  | .log2Fastest _ _ _ => 0x00000129
  | .exp _ _ _ => 0x0000002A
  | .expFast _ _ _ => 0x000000AA
  | .expFastest _ _ _ => 0x0000012A
  | .log _ _ _ => 0x0000002B
  | .logFast _ _ _ => 0x000000AB
  | .logFastest _ _ _ => 0x0000012B
  | .pow _ _ _ _ => 0x0000002C
  | .powFast _ _ _ _ => 0x000000AC
  | .powFastest _ _ _ _ => 0x0000012C
  | .sin _ _ _ => 0x0000002D
  | .sinFast _ _ _ => 0x000000AD
  | .sinFastest _ _ _ => 0x0000012D
  | .cos _ _ _ => 0x0000002E
  | .cosFast _ _ _ => 0x000000AE
  | .cosFastest _ _ _ => 0x0000012E
  | .tan _ _ _ => 0x0000002F
  | .tanFast _ _ _ => 0x000000AF
  | .tanFastest _ _ _ => 0x0000012F
  | .atan2 _ _ _ _ => 0x00000030
  | .atan2Fast _ _ _ _ => 0x000000B0
  | .atan2Fastest _ _ _ _ => 0x00000130
  | .asin _ _ _ => 0x00000031
  | .asinFast _ _ _ => 0x000000B1
  | .asinFastest _ _ _ => 0x00000131
  | .acos _ _ _ => 0x00000032
  | .acosFast _ _ _ => 0x000000B2
  | .acosFastest _ _ _ => 0x00000132
  | .dot _ _ _ _ _ => 0x00000038
  | .cross _ _ _ _ => 0x00000439
  | .lensqr _ _ _ _ => 0x0000003A
  | .lensqrw _ _ _ => 0x0000003B
  | .length _ _ _ _ => 0x0000003C
  | .lengthFast _ _ _ _ => 0x000000BC
  | .lengthFastest _ _ _ _ => 0x0000013C
  | .lengthPrecise _ _ _ _ => 0x000001BC
  | .norm _ _ _ _ => 0x0000003D
  | .normFast _ _ _ _ => 0x000000BD
  | .normFastest _ _ _ _ => 0x0000013D
  | .clamplen _ _ _ _ _ => 0x0000003E
  | .clamplenFast _ _ _ _ _ => 0x000000BE
  | .clamplenFastest _ _ _ _ _ => 0x0000013E

/-- Masking a packed word masks each of its fields. -/
theorem pack_and (f m : Fields) :
    pack f &&& pack m = pack ⟨f.op &&& m.op, f.w &&& m.w, f.tier &&& m.tier, f.vl &&& m.vl, f.s &&& m.s,
      f.rd &&& m.rd, f.rs1 &&& m.rs1, f.rs2 &&& m.rs2, f.rs3 &&& m.rs3⟩ := by
  apply BitVec.eq_of_getLsbD_eq
  intro i hi
  simp only [pack, BitVec.getLsbD_append, BitVec.getLsbD_and]
  interval_cases i <;> simp

/-- The word of a command agrees with its row of the table when its fields do: `mw` and `vw` are
the row's mask and match, `m` and `v` their fields. -/
theorem encode_and (i : Instr) (mw vw : Word32) (m v : Fields) (hm : unpack mw = m) (hv : unpack vw = v)
    (h : (⟨i.fields.op &&& m.op, i.fields.w &&& m.w, i.fields.tier &&& m.tier, i.fields.vl &&& m.vl,
      i.fields.s &&& m.s, i.fields.rd &&& m.rd, i.fields.rs1 &&& m.rs1, i.fields.rs2 &&& m.rs2,
      i.fields.rs3 &&& m.rs3⟩ : Fields) = v) : encode i &&& mw = vw := by
  have e := pack_and i.fields m
  rw [h, ← hm, ← hv, pack_unpack, pack_unpack] at e
  exact e

/-- The table's row of a command: its word has the row's fixed bits, well formed but for register groups and
CONST's index, which the row leaves to the legality test (30_encoding.md R98, R99). -/
def TableRow.Statement (i : Instr) : Prop := i.wellFormed = true → encode i &&& tableMask i = tableMatch i

theorem TableRow.nop : TableRow.Statement (.nop) :=
  fun _ => encode_and _ 0xFFFFFFFF 0x00000000 ⟨63, 1, 3, 3, 1, 31, 31, 31, 31⟩ ⟨0, 0, 0, 0, 0, 0, 0, 0, 0⟩ (by rfl) (by rfl) (by simp [Instr.fields])

theorem TableRow.mov (w : Family) (vl : VLen) (rd rs1 : RegNum) : TableRow.Statement (.mov w vl rd rs1) :=
  fun _ => encode_and _ 0xFFC009BF 0x00000001 ⟨63, 0, 3, 0, 1, 0, 0, 31, 31⟩ ⟨1, 0, 0, 0, 0, 0, 0, 0, 0⟩ (by rfl) (by rfl) (by simp [Instr.fields])

/-- CONST: the row also fixes bit 21, the top bit of an index below 16. -/
theorem TableRow.const (w : Family) (rd k : RegNum) : TableRow.Statement (.const w rd k) := by
  intro h
  have hk : k &&& 16#5 = 0#5 := by
    have hlt : k.toNat < 16 := by simpa [Instr.wellFormed, romIndexFits] using h
    apply BitVec.eq_of_toNat_eq
    have := k.isLt
    simp only [BitVec.toNat_and]
    generalize k.toNat = n at hlt
    interval_cases n <;> rfl
  exact encode_and _ 0xFFE00FBF 0x00000002 ⟨0x3F, 0, 3, 3, 1, 0, 16, 31, 31⟩ ⟨2, 0, 0, 0, 0, 0, 0, 0, 0⟩ (by rfl) (by rfl) (by simp [Instr.fields, hk])

theorem TableRow.widen (vl : VLen) (rd rs1 : RegNum) : TableRow.Statement (.widen vl rd rs1) :=
  fun _ => encode_and _ 0xFFC009FF 0x00000043 ⟨63, 1, 3, 0, 1, 0, 0, 31, 31⟩ ⟨3, 1, 0, 0, 0, 0, 0, 0, 0⟩ (by rfl) (by rfl) (by simp [Instr.fields])

theorem TableRow.narrow (vl : VLen) (rd rs1 : RegNum) : TableRow.Statement (.narrow vl rd rs1) :=
  fun _ => encode_and _ 0xFFC009FF 0x00000004 ⟨63, 1, 3, 0, 1, 0, 0, 31, 31⟩ ⟨4, 0, 0, 0, 0, 0, 0, 0, 0⟩ (by rfl) (by rfl) (by simp [Instr.fields])

theorem TableRow.fromint (w : Family) (rd rs1 : RegNum) : TableRow.Statement (.fromint w rd rs1) :=
  fun _ => encode_and _ 0xFFC00FBF 0x00000005 ⟨63, 0, 3, 3, 1, 0, 0, 31, 31⟩ ⟨5, 0, 0, 0, 0, 0, 0, 0, 0⟩ (by rfl) (by rfl) (by simp [Instr.fields])

theorem TableRow.floor (w : Family) (rd rs1 : RegNum) : TableRow.Statement (.floor w rd rs1) :=
  fun _ => encode_and _ 0xFFC00FBF 0x00000006 ⟨63, 0, 3, 3, 1, 0, 0, 31, 31⟩ ⟨6, 0, 0, 0, 0, 0, 0, 0, 0⟩ (by rfl) (by rfl) (by simp [Instr.fields])

theorem TableRow.ceil (w : Family) (rd rs1 : RegNum) : TableRow.Statement (.ceil w rd rs1) :=
  fun _ => encode_and _ 0xFFC00FBF 0x00000007 ⟨63, 0, 3, 3, 1, 0, 0, 31, 31⟩ ⟨7, 0, 0, 0, 0, 0, 0, 0, 0⟩ (by rfl) (by rfl) (by simp [Instr.fields])

theorem TableRow.round (w : Family) (rd rs1 : RegNum) : TableRow.Statement (.round w rd rs1) :=
  fun _ => encode_and _ 0xFFC00FBF 0x00000008 ⟨63, 0, 3, 3, 1, 0, 0, 31, 31⟩ ⟨8, 0, 0, 0, 0, 0, 0, 0, 0⟩ (by rfl) (by rfl) (by simp [Instr.fields])

theorem TableRow.fromf (w : Family) (rd rs1 : RegNum) : TableRow.Statement (.fromf w rd rs1) :=
  fun _ => encode_and _ 0xFFC00FBF 0x00000009 ⟨63, 0, 3, 3, 1, 0, 0, 31, 31⟩ ⟨9, 0, 0, 0, 0, 0, 0, 0, 0⟩ (by rfl) (by rfl) (by simp [Instr.fields])

theorem TableRow.fromd (w : Family) (rd rs1 : RegNum) : TableRow.Statement (.fromd w rd rs1) :=
  fun _ => encode_and _ 0xFFC00FBF 0x0000000A ⟨63, 0, 3, 3, 1, 0, 0, 31, 31⟩ ⟨10, 0, 0, 0, 0, 0, 0, 0, 0⟩ (by rfl) (by rfl) (by simp [Instr.fields])

theorem TableRow.tof (w : Family) (rd rs1 : RegNum) : TableRow.Statement (.tof w rd rs1) :=
  fun _ => encode_and _ 0xFFC00FBF 0x0000000B ⟨63, 0, 3, 3, 1, 0, 0, 31, 31⟩ ⟨11, 0, 0, 0, 0, 0, 0, 0, 0⟩ (by rfl) (by rfl) (by simp [Instr.fields])

theorem TableRow.tod (w : Family) (rd rs1 : RegNum) : TableRow.Statement (.tod w rd rs1) :=
  fun _ => encode_and _ 0xFFC00FBF 0x0000000C ⟨63, 0, 3, 3, 1, 0, 0, 31, 31⟩ ⟨12, 0, 0, 0, 0, 0, 0, 0, 0⟩ (by rfl) (by rfl) (by simp [Instr.fields])

theorem TableRow.ratio (w : Family) (rd rs1 rs2 : RegNum) : TableRow.Statement (.ratio w rd rs1 rs2) :=
  fun _ => encode_and _ 0xF8000FBF 0x0000000D ⟨63, 0, 3, 3, 1, 0, 0, 0, 31⟩ ⟨13, 0, 0, 0, 0, 0, 0, 0, 0⟩ (by rfl) (by rfl) (by simp [Instr.fields])

theorem TableRow.cmp (w : Family) (rd rs1 rs2 : RegNum) : TableRow.Statement (.cmp w rd rs1 rs2) :=
  fun _ => encode_and _ 0xF8000FBF 0x0000000E ⟨63, 0, 3, 3, 1, 0, 0, 0, 31⟩ ⟨14, 0, 0, 0, 0, 0, 0, 0, 0⟩ (by rfl) (by rfl) (by simp [Instr.fields])

theorem TableRow.add (w : Family) (vl : VLen) (sb : Bool) (rd rs1 rs2 : RegNum) : TableRow.Statement (.add w vl sb rd rs1 rs2) :=
  fun _ => encode_and _ 0xF80001BF 0x00000010 ⟨63, 0, 3, 0, 0, 0, 0, 0, 31⟩ ⟨16, 0, 0, 0, 0, 0, 0, 0, 0⟩ (by rfl) (by rfl) (by simp [Instr.fields])

theorem TableRow.sub (w : Family) (vl : VLen) (sb : Bool) (rd rs1 rs2 : RegNum) : TableRow.Statement (.sub w vl sb rd rs1 rs2) :=
  fun _ => encode_and _ 0xF80001BF 0x00000011 ⟨63, 0, 3, 0, 0, 0, 0, 0, 31⟩ ⟨17, 0, 0, 0, 0, 0, 0, 0, 0⟩ (by rfl) (by rfl) (by simp [Instr.fields])

theorem TableRow.mul (w : Family) (vl : VLen) (sb : Bool) (rd rs1 rs2 : RegNum) : TableRow.Statement (.mul w vl sb rd rs1 rs2) :=
  fun _ => encode_and _ 0xF80001BF 0x00000012 ⟨63, 0, 3, 0, 0, 0, 0, 0, 31⟩ ⟨18, 0, 0, 0, 0, 0, 0, 0, 0⟩ (by rfl) (by rfl) (by simp [Instr.fields])

theorem TableRow.div (w : Family) (vl : VLen) (sb : Bool) (rd rs1 rs2 : RegNum) : TableRow.Statement (.div w vl sb rd rs1 rs2) :=
  fun _ => encode_and _ 0xF80001BF 0x00000013 ⟨63, 0, 3, 0, 0, 0, 0, 0, 31⟩ ⟨19, 0, 0, 0, 0, 0, 0, 0, 0⟩ (by rfl) (by rfl) (by simp [Instr.fields])

theorem TableRow.divFast (w : Family) (vl : VLen) (sb : Bool) (rd rs1 rs2 : RegNum) : TableRow.Statement (.divFast w vl sb rd rs1 rs2) :=
  fun _ => encode_and _ 0xF80001BF 0x00000093 ⟨63, 0, 3, 0, 0, 0, 0, 0, 31⟩ ⟨19, 0, 1, 0, 0, 0, 0, 0, 0⟩ (by rfl) (by rfl) (by simp [Instr.fields])

theorem TableRow.divFastest (w : Family) (vl : VLen) (sb : Bool) (rd rs1 rs2 : RegNum) : TableRow.Statement (.divFastest w vl sb rd rs1 rs2) :=
  fun _ => encode_and _ 0xF80001BF 0x00000113 ⟨63, 0, 3, 0, 0, 0, 0, 0, 31⟩ ⟨19, 0, 2, 0, 0, 0, 0, 0, 0⟩ (by rfl) (by rfl) (by simp [Instr.fields])

theorem TableRow.divPrecise (w : Family) (vl : VLen) (sb : Bool) (rd rs1 rs2 : RegNum) : TableRow.Statement (.divPrecise w vl sb rd rs1 rs2) :=
  fun _ => encode_and _ 0xF80001BF 0x00000193 ⟨63, 0, 3, 0, 0, 0, 0, 0, 31⟩ ⟨19, 0, 3, 0, 0, 0, 0, 0, 0⟩ (by rfl) (by rfl) (by simp [Instr.fields])

theorem TableRow.mod (w : Family) (vl : VLen) (sb : Bool) (rd rs1 rs2 : RegNum) : TableRow.Statement (.mod w vl sb rd rs1 rs2) :=
  fun _ => encode_and _ 0xF80001BF 0x00000014 ⟨63, 0, 3, 0, 0, 0, 0, 0, 31⟩ ⟨20, 0, 0, 0, 0, 0, 0, 0, 0⟩ (by rfl) (by rfl) (by simp [Instr.fields])

theorem TableRow.neg (w : Family) (rd rs1 : RegNum) : TableRow.Statement (.neg w rd rs1) :=
  fun _ => encode_and _ 0xFFC00FBF 0x00000015 ⟨63, 0, 3, 3, 1, 0, 0, 31, 31⟩ ⟨21, 0, 0, 0, 0, 0, 0, 0, 0⟩ (by rfl) (by rfl) (by simp [Instr.fields])

theorem TableRow.abs (w : Family) (rd rs1 : RegNum) : TableRow.Statement (.abs w rd rs1) :=
  fun _ => encode_and _ 0xFFC00FBF 0x00000016 ⟨63, 0, 3, 3, 1, 0, 0, 31, 31⟩ ⟨22, 0, 0, 0, 0, 0, 0, 0, 0⟩ (by rfl) (by rfl) (by simp [Instr.fields])

theorem TableRow.min (w : Family) (rd rs1 rs2 : RegNum) : TableRow.Statement (.min w rd rs1 rs2) :=
  fun _ => encode_and _ 0xF8000FBF 0x00000017 ⟨63, 0, 3, 3, 1, 0, 0, 0, 31⟩ ⟨23, 0, 0, 0, 0, 0, 0, 0, 0⟩ (by rfl) (by rfl) (by simp [Instr.fields])

theorem TableRow.max (w : Family) (rd rs1 rs2 : RegNum) : TableRow.Statement (.max w rd rs1 rs2) :=
  fun _ => encode_and _ 0xF8000FBF 0x00000018 ⟨63, 0, 3, 3, 1, 0, 0, 0, 31⟩ ⟨24, 0, 0, 0, 0, 0, 0, 0, 0⟩ (by rfl) (by rfl) (by simp [Instr.fields])

theorem TableRow.clamp (w : Family) (vl : VLen) (sb : Bool) (rd rs1 rs2 rs3 : RegNum) : TableRow.Statement (.clamp w vl sb rd rs1 rs2 rs3) :=
  fun _ => encode_and _ 0x000001BF 0x00000019 ⟨63, 0, 3, 0, 0, 0, 0, 0, 0⟩ ⟨25, 0, 0, 0, 0, 0, 0, 0, 0⟩ (by rfl) (by rfl) (by simp [Instr.fields])

theorem TableRow.lerp (w : Family) (vl : VLen) (rd rs1 rs2 rs3 : RegNum) : TableRow.Statement (.lerp w vl rd rs1 rs2 rs3) :=
  fun _ => encode_and _ 0x000009BF 0x0000001A ⟨63, 0, 3, 0, 1, 0, 0, 0, 0⟩ ⟨26, 0, 0, 0, 0, 0, 0, 0, 0⟩ (by rfl) (by rfl) (by simp [Instr.fields])

theorem TableRow.sqrt (w : Family) (rd rs1 : RegNum) : TableRow.Statement (.sqrt w rd rs1) :=
  fun _ => encode_and _ 0xFFC00FBF 0x00000020 ⟨63, 0, 3, 3, 1, 0, 0, 31, 31⟩ ⟨32, 0, 0, 0, 0, 0, 0, 0, 0⟩ (by rfl) (by rfl) (by simp [Instr.fields])

theorem TableRow.sqrtFast (w : Family) (rd rs1 : RegNum) : TableRow.Statement (.sqrtFast w rd rs1) :=
  fun _ => encode_and _ 0xFFC00FBF 0x000000A0 ⟨63, 0, 3, 3, 1, 0, 0, 31, 31⟩ ⟨32, 0, 1, 0, 0, 0, 0, 0, 0⟩ (by rfl) (by rfl) (by simp [Instr.fields])

theorem TableRow.sqrtFastest (w : Family) (rd rs1 : RegNum) : TableRow.Statement (.sqrtFastest w rd rs1) :=
  fun _ => encode_and _ 0xFFC00FBF 0x00000120 ⟨63, 0, 3, 3, 1, 0, 0, 31, 31⟩ ⟨32, 0, 2, 0, 0, 0, 0, 0, 0⟩ (by rfl) (by rfl) (by simp [Instr.fields])

theorem TableRow.sqrtPrecise (w : Family) (rd rs1 : RegNum) : TableRow.Statement (.sqrtPrecise w rd rs1) :=
  fun _ => encode_and _ 0xFFC00FBF 0x000001A0 ⟨63, 0, 3, 3, 1, 0, 0, 31, 31⟩ ⟨32, 0, 3, 0, 0, 0, 0, 0, 0⟩ (by rfl) (by rfl) (by simp [Instr.fields])

theorem TableRow.rsqrt (w : Family) (rd rs1 : RegNum) : TableRow.Statement (.rsqrt w rd rs1) :=
  fun _ => encode_and _ 0xFFC00FBF 0x00000021 ⟨63, 0, 3, 3, 1, 0, 0, 31, 31⟩ ⟨33, 0, 0, 0, 0, 0, 0, 0, 0⟩ (by rfl) (by rfl) (by simp [Instr.fields])

theorem TableRow.rsqrtFast (w : Family) (rd rs1 : RegNum) : TableRow.Statement (.rsqrtFast w rd rs1) :=
  fun _ => encode_and _ 0xFFC00FBF 0x000000A1 ⟨63, 0, 3, 3, 1, 0, 0, 31, 31⟩ ⟨33, 0, 1, 0, 0, 0, 0, 0, 0⟩ (by rfl) (by rfl) (by simp [Instr.fields])

theorem TableRow.rsqrtFastest (w : Family) (rd rs1 : RegNum) : TableRow.Statement (.rsqrtFastest w rd rs1) :=
  fun _ => encode_and _ 0xFFC00FBF 0x00000121 ⟨63, 0, 3, 3, 1, 0, 0, 31, 31⟩ ⟨33, 0, 2, 0, 0, 0, 0, 0, 0⟩ (by rfl) (by rfl) (by simp [Instr.fields])

theorem TableRow.rcp (w : Family) (rd rs1 : RegNum) : TableRow.Statement (.rcp w rd rs1) :=
  fun _ => encode_and _ 0xFFC00FBF 0x00000022 ⟨63, 0, 3, 3, 1, 0, 0, 31, 31⟩ ⟨34, 0, 0, 0, 0, 0, 0, 0, 0⟩ (by rfl) (by rfl) (by simp [Instr.fields])

theorem TableRow.rcpFast (w : Family) (rd rs1 : RegNum) : TableRow.Statement (.rcpFast w rd rs1) :=
  fun _ => encode_and _ 0xFFC00FBF 0x000000A2 ⟨63, 0, 3, 3, 1, 0, 0, 31, 31⟩ ⟨34, 0, 1, 0, 0, 0, 0, 0, 0⟩ (by rfl) (by rfl) (by simp [Instr.fields])

theorem TableRow.rcpFastest (w : Family) (rd rs1 : RegNum) : TableRow.Statement (.rcpFastest w rd rs1) :=
  fun _ => encode_and _ 0xFFC00FBF 0x00000122 ⟨63, 0, 3, 3, 1, 0, 0, 31, 31⟩ ⟨34, 0, 2, 0, 0, 0, 0, 0, 0⟩ (by rfl) (by rfl) (by simp [Instr.fields])

theorem TableRow.exp2 (w : Family) (rd rs1 : RegNum) : TableRow.Statement (.exp2 w rd rs1) :=
  fun _ => encode_and _ 0xFFC00FBF 0x00000028 ⟨63, 0, 3, 3, 1, 0, 0, 31, 31⟩ ⟨40, 0, 0, 0, 0, 0, 0, 0, 0⟩ (by rfl) (by rfl) (by simp [Instr.fields])

theorem TableRow.exp2Fast (w : Family) (rd rs1 : RegNum) : TableRow.Statement (.exp2Fast w rd rs1) :=
  fun _ => encode_and _ 0xFFC00FBF 0x000000A8 ⟨63, 0, 3, 3, 1, 0, 0, 31, 31⟩ ⟨40, 0, 1, 0, 0, 0, 0, 0, 0⟩ (by rfl) (by rfl) (by simp [Instr.fields])

theorem TableRow.exp2Fastest (w : Family) (rd rs1 : RegNum) : TableRow.Statement (.exp2Fastest w rd rs1) :=
  fun _ => encode_and _ 0xFFC00FBF 0x00000128 ⟨63, 0, 3, 3, 1, 0, 0, 31, 31⟩ ⟨40, 0, 2, 0, 0, 0, 0, 0, 0⟩ (by rfl) (by rfl) (by simp [Instr.fields])

theorem TableRow.log2 (w : Family) (rd rs1 : RegNum) : TableRow.Statement (.log2 w rd rs1) :=
  fun _ => encode_and _ 0xFFC00FBF 0x00000029 ⟨63, 0, 3, 3, 1, 0, 0, 31, 31⟩ ⟨41, 0, 0, 0, 0, 0, 0, 0, 0⟩ (by rfl) (by rfl) (by simp [Instr.fields])

theorem TableRow.log2Fast (w : Family) (rd rs1 : RegNum) : TableRow.Statement (.log2Fast w rd rs1) :=
  fun _ => encode_and _ 0xFFC00FBF 0x000000A9 ⟨63, 0, 3, 3, 1, 0, 0, 31, 31⟩ ⟨41, 0, 1, 0, 0, 0, 0, 0, 0⟩ (by rfl) (by rfl) (by simp [Instr.fields])

theorem TableRow.log2Fastest (w : Family) (rd rs1 : RegNum) : TableRow.Statement (.log2Fastest w rd rs1) :=
  fun _ => encode_and _ 0xFFC00FBF 0x00000129 ⟨63, 0, 3, 3, 1, 0, 0, 31, 31⟩ ⟨41, 0, 2, 0, 0, 0, 0, 0, 0⟩ (by rfl) (by rfl) (by simp [Instr.fields])

theorem TableRow.exp (w : Family) (rd rs1 : RegNum) : TableRow.Statement (.exp w rd rs1) :=
  fun _ => encode_and _ 0xFFC00FBF 0x0000002A ⟨63, 0, 3, 3, 1, 0, 0, 31, 31⟩ ⟨42, 0, 0, 0, 0, 0, 0, 0, 0⟩ (by rfl) (by rfl) (by simp [Instr.fields])

theorem TableRow.expFast (w : Family) (rd rs1 : RegNum) : TableRow.Statement (.expFast w rd rs1) :=
  fun _ => encode_and _ 0xFFC00FBF 0x000000AA ⟨63, 0, 3, 3, 1, 0, 0, 31, 31⟩ ⟨42, 0, 1, 0, 0, 0, 0, 0, 0⟩ (by rfl) (by rfl) (by simp [Instr.fields])

theorem TableRow.expFastest (w : Family) (rd rs1 : RegNum) : TableRow.Statement (.expFastest w rd rs1) :=
  fun _ => encode_and _ 0xFFC00FBF 0x0000012A ⟨63, 0, 3, 3, 1, 0, 0, 31, 31⟩ ⟨42, 0, 2, 0, 0, 0, 0, 0, 0⟩ (by rfl) (by rfl) (by simp [Instr.fields])

theorem TableRow.log (w : Family) (rd rs1 : RegNum) : TableRow.Statement (.log w rd rs1) :=
  fun _ => encode_and _ 0xFFC00FBF 0x0000002B ⟨63, 0, 3, 3, 1, 0, 0, 31, 31⟩ ⟨43, 0, 0, 0, 0, 0, 0, 0, 0⟩ (by rfl) (by rfl) (by simp [Instr.fields])

theorem TableRow.logFast (w : Family) (rd rs1 : RegNum) : TableRow.Statement (.logFast w rd rs1) :=
  fun _ => encode_and _ 0xFFC00FBF 0x000000AB ⟨63, 0, 3, 3, 1, 0, 0, 31, 31⟩ ⟨43, 0, 1, 0, 0, 0, 0, 0, 0⟩ (by rfl) (by rfl) (by simp [Instr.fields])

theorem TableRow.logFastest (w : Family) (rd rs1 : RegNum) : TableRow.Statement (.logFastest w rd rs1) :=
  fun _ => encode_and _ 0xFFC00FBF 0x0000012B ⟨63, 0, 3, 3, 1, 0, 0, 31, 31⟩ ⟨43, 0, 2, 0, 0, 0, 0, 0, 0⟩ (by rfl) (by rfl) (by simp [Instr.fields])

theorem TableRow.pow (w : Family) (rd rs1 rs2 : RegNum) : TableRow.Statement (.pow w rd rs1 rs2) :=
  fun _ => encode_and _ 0xF8000FBF 0x0000002C ⟨63, 0, 3, 3, 1, 0, 0, 0, 31⟩ ⟨44, 0, 0, 0, 0, 0, 0, 0, 0⟩ (by rfl) (by rfl) (by simp [Instr.fields])

theorem TableRow.powFast (w : Family) (rd rs1 rs2 : RegNum) : TableRow.Statement (.powFast w rd rs1 rs2) :=
  fun _ => encode_and _ 0xF8000FBF 0x000000AC ⟨63, 0, 3, 3, 1, 0, 0, 0, 31⟩ ⟨44, 0, 1, 0, 0, 0, 0, 0, 0⟩ (by rfl) (by rfl) (by simp [Instr.fields])

theorem TableRow.powFastest (w : Family) (rd rs1 rs2 : RegNum) : TableRow.Statement (.powFastest w rd rs1 rs2) :=
  fun _ => encode_and _ 0xF8000FBF 0x0000012C ⟨63, 0, 3, 3, 1, 0, 0, 0, 31⟩ ⟨44, 0, 2, 0, 0, 0, 0, 0, 0⟩ (by rfl) (by rfl) (by simp [Instr.fields])

theorem TableRow.sin (w : Family) (rd rs1 : RegNum) : TableRow.Statement (.sin w rd rs1) :=
  fun _ => encode_and _ 0xFFC00FBF 0x0000002D ⟨63, 0, 3, 3, 1, 0, 0, 31, 31⟩ ⟨45, 0, 0, 0, 0, 0, 0, 0, 0⟩ (by rfl) (by rfl) (by simp [Instr.fields])

theorem TableRow.sinFast (w : Family) (rd rs1 : RegNum) : TableRow.Statement (.sinFast w rd rs1) :=
  fun _ => encode_and _ 0xFFC00FBF 0x000000AD ⟨63, 0, 3, 3, 1, 0, 0, 31, 31⟩ ⟨45, 0, 1, 0, 0, 0, 0, 0, 0⟩ (by rfl) (by rfl) (by simp [Instr.fields])

theorem TableRow.sinFastest (w : Family) (rd rs1 : RegNum) : TableRow.Statement (.sinFastest w rd rs1) :=
  fun _ => encode_and _ 0xFFC00FBF 0x0000012D ⟨63, 0, 3, 3, 1, 0, 0, 31, 31⟩ ⟨45, 0, 2, 0, 0, 0, 0, 0, 0⟩ (by rfl) (by rfl) (by simp [Instr.fields])

theorem TableRow.cos (w : Family) (rd rs1 : RegNum) : TableRow.Statement (.cos w rd rs1) :=
  fun _ => encode_and _ 0xFFC00FBF 0x0000002E ⟨63, 0, 3, 3, 1, 0, 0, 31, 31⟩ ⟨46, 0, 0, 0, 0, 0, 0, 0, 0⟩ (by rfl) (by rfl) (by simp [Instr.fields])

theorem TableRow.cosFast (w : Family) (rd rs1 : RegNum) : TableRow.Statement (.cosFast w rd rs1) :=
  fun _ => encode_and _ 0xFFC00FBF 0x000000AE ⟨63, 0, 3, 3, 1, 0, 0, 31, 31⟩ ⟨46, 0, 1, 0, 0, 0, 0, 0, 0⟩ (by rfl) (by rfl) (by simp [Instr.fields])

theorem TableRow.cosFastest (w : Family) (rd rs1 : RegNum) : TableRow.Statement (.cosFastest w rd rs1) :=
  fun _ => encode_and _ 0xFFC00FBF 0x0000012E ⟨63, 0, 3, 3, 1, 0, 0, 31, 31⟩ ⟨46, 0, 2, 0, 0, 0, 0, 0, 0⟩ (by rfl) (by rfl) (by simp [Instr.fields])

theorem TableRow.tan (w : Family) (rd rs1 : RegNum) : TableRow.Statement (.tan w rd rs1) :=
  fun _ => encode_and _ 0xFFC00FBF 0x0000002F ⟨63, 0, 3, 3, 1, 0, 0, 31, 31⟩ ⟨47, 0, 0, 0, 0, 0, 0, 0, 0⟩ (by rfl) (by rfl) (by simp [Instr.fields])

theorem TableRow.tanFast (w : Family) (rd rs1 : RegNum) : TableRow.Statement (.tanFast w rd rs1) :=
  fun _ => encode_and _ 0xFFC00FBF 0x000000AF ⟨63, 0, 3, 3, 1, 0, 0, 31, 31⟩ ⟨47, 0, 1, 0, 0, 0, 0, 0, 0⟩ (by rfl) (by rfl) (by simp [Instr.fields])

theorem TableRow.tanFastest (w : Family) (rd rs1 : RegNum) : TableRow.Statement (.tanFastest w rd rs1) :=
  fun _ => encode_and _ 0xFFC00FBF 0x0000012F ⟨63, 0, 3, 3, 1, 0, 0, 31, 31⟩ ⟨47, 0, 2, 0, 0, 0, 0, 0, 0⟩ (by rfl) (by rfl) (by simp [Instr.fields])

theorem TableRow.atan2 (w : Family) (rd rs1 rs2 : RegNum) : TableRow.Statement (.atan2 w rd rs1 rs2) :=
  fun _ => encode_and _ 0xF8000FBF 0x00000030 ⟨63, 0, 3, 3, 1, 0, 0, 0, 31⟩ ⟨48, 0, 0, 0, 0, 0, 0, 0, 0⟩ (by rfl) (by rfl) (by simp [Instr.fields])

theorem TableRow.atan2Fast (w : Family) (rd rs1 rs2 : RegNum) : TableRow.Statement (.atan2Fast w rd rs1 rs2) :=
  fun _ => encode_and _ 0xF8000FBF 0x000000B0 ⟨63, 0, 3, 3, 1, 0, 0, 0, 31⟩ ⟨48, 0, 1, 0, 0, 0, 0, 0, 0⟩ (by rfl) (by rfl) (by simp [Instr.fields])

theorem TableRow.atan2Fastest (w : Family) (rd rs1 rs2 : RegNum) : TableRow.Statement (.atan2Fastest w rd rs1 rs2) :=
  fun _ => encode_and _ 0xF8000FBF 0x00000130 ⟨63, 0, 3, 3, 1, 0, 0, 0, 31⟩ ⟨48, 0, 2, 0, 0, 0, 0, 0, 0⟩ (by rfl) (by rfl) (by simp [Instr.fields])

theorem TableRow.asin (w : Family) (rd rs1 : RegNum) : TableRow.Statement (.asin w rd rs1) :=
  fun _ => encode_and _ 0xFFC00FBF 0x00000031 ⟨63, 0, 3, 3, 1, 0, 0, 31, 31⟩ ⟨49, 0, 0, 0, 0, 0, 0, 0, 0⟩ (by rfl) (by rfl) (by simp [Instr.fields])

theorem TableRow.asinFast (w : Family) (rd rs1 : RegNum) : TableRow.Statement (.asinFast w rd rs1) :=
  fun _ => encode_and _ 0xFFC00FBF 0x000000B1 ⟨63, 0, 3, 3, 1, 0, 0, 31, 31⟩ ⟨49, 0, 1, 0, 0, 0, 0, 0, 0⟩ (by rfl) (by rfl) (by simp [Instr.fields])

theorem TableRow.asinFastest (w : Family) (rd rs1 : RegNum) : TableRow.Statement (.asinFastest w rd rs1) :=
  fun _ => encode_and _ 0xFFC00FBF 0x00000131 ⟨63, 0, 3, 3, 1, 0, 0, 31, 31⟩ ⟨49, 0, 2, 0, 0, 0, 0, 0, 0⟩ (by rfl) (by rfl) (by simp [Instr.fields])

theorem TableRow.acos (w : Family) (rd rs1 : RegNum) : TableRow.Statement (.acos w rd rs1) :=
  fun _ => encode_and _ 0xFFC00FBF 0x00000032 ⟨63, 0, 3, 3, 1, 0, 0, 31, 31⟩ ⟨50, 0, 0, 0, 0, 0, 0, 0, 0⟩ (by rfl) (by rfl) (by simp [Instr.fields])

theorem TableRow.acosFast (w : Family) (rd rs1 : RegNum) : TableRow.Statement (.acosFast w rd rs1) :=
  fun _ => encode_and _ 0xFFC00FBF 0x000000B2 ⟨63, 0, 3, 3, 1, 0, 0, 31, 31⟩ ⟨50, 0, 1, 0, 0, 0, 0, 0, 0⟩ (by rfl) (by rfl) (by simp [Instr.fields])

theorem TableRow.acosFastest (w : Family) (rd rs1 : RegNum) : TableRow.Statement (.acosFastest w rd rs1) :=
  fun _ => encode_and _ 0xFFC00FBF 0x00000132 ⟨63, 0, 3, 3, 1, 0, 0, 31, 31⟩ ⟨50, 0, 2, 0, 0, 0, 0, 0, 0⟩ (by rfl) (by rfl) (by simp [Instr.fields])

theorem TableRow.dot (w : Family) (vl : VLen) (rd rs1 rs2 : RegNum) : TableRow.Statement (.dot w vl rd rs1 rs2) :=
  fun _ => encode_and _ 0xF80009BF 0x00000038 ⟨63, 0, 3, 0, 1, 0, 0, 0, 31⟩ ⟨56, 0, 0, 0, 0, 0, 0, 0, 0⟩ (by rfl) (by rfl) (by simp [Instr.fields])

theorem TableRow.cross (w : Family) (rd rs1 rs2 : RegNum) : TableRow.Statement (.cross w rd rs1 rs2) :=
  fun _ => encode_and _ 0xF8000FBF 0x00000439 ⟨63, 0, 3, 3, 1, 0, 0, 0, 31⟩ ⟨57, 0, 0, 2, 0, 0, 0, 0, 0⟩ (by rfl) (by rfl) (by simp [Instr.fields])

theorem TableRow.lensqr (w : Family) (vl : VLen) (rd rs1 : RegNum) : TableRow.Statement (.lensqr w vl rd rs1) :=
  fun _ => encode_and _ 0xFFC009BF 0x0000003A ⟨63, 0, 3, 0, 1, 0, 0, 31, 31⟩ ⟨58, 0, 0, 0, 0, 0, 0, 0, 0⟩ (by rfl) (by rfl) (by simp [Instr.fields])

theorem TableRow.lensqrw (vl : VLen) (rd rs1 : RegNum) : TableRow.Statement (.lensqrw vl rd rs1) :=
  fun _ => encode_and _ 0xFFC009FF 0x0000003B ⟨63, 1, 3, 0, 1, 0, 0, 31, 31⟩ ⟨59, 0, 0, 0, 0, 0, 0, 0, 0⟩ (by rfl) (by rfl) (by simp [Instr.fields])

theorem TableRow.length (w : Family) (vl : VLen) (rd rs1 : RegNum) : TableRow.Statement (.length w vl rd rs1) :=
  fun _ => encode_and _ 0xFFC009BF 0x0000003C ⟨63, 0, 3, 0, 1, 0, 0, 31, 31⟩ ⟨60, 0, 0, 0, 0, 0, 0, 0, 0⟩ (by rfl) (by rfl) (by simp [Instr.fields])

theorem TableRow.lengthFast (w : Family) (vl : VLen) (rd rs1 : RegNum) : TableRow.Statement (.lengthFast w vl rd rs1) :=
  fun _ => encode_and _ 0xFFC009BF 0x000000BC ⟨63, 0, 3, 0, 1, 0, 0, 31, 31⟩ ⟨60, 0, 1, 0, 0, 0, 0, 0, 0⟩ (by rfl) (by rfl) (by simp [Instr.fields])

theorem TableRow.lengthFastest (w : Family) (vl : VLen) (rd rs1 : RegNum) : TableRow.Statement (.lengthFastest w vl rd rs1) :=
  fun _ => encode_and _ 0xFFC009BF 0x0000013C ⟨63, 0, 3, 0, 1, 0, 0, 31, 31⟩ ⟨60, 0, 2, 0, 0, 0, 0, 0, 0⟩ (by rfl) (by rfl) (by simp [Instr.fields])

theorem TableRow.lengthPrecise (w : Family) (vl : VLen) (rd rs1 : RegNum) : TableRow.Statement (.lengthPrecise w vl rd rs1) :=
  fun _ => encode_and _ 0xFFC009BF 0x000001BC ⟨63, 0, 3, 0, 1, 0, 0, 31, 31⟩ ⟨60, 0, 3, 0, 0, 0, 0, 0, 0⟩ (by rfl) (by rfl) (by simp [Instr.fields])

theorem TableRow.norm (w : Family) (vl : VLen) (rd rs1 : RegNum) : TableRow.Statement (.norm w vl rd rs1) :=
  fun _ => encode_and _ 0xFFC009BF 0x0000003D ⟨63, 0, 3, 0, 1, 0, 0, 31, 31⟩ ⟨61, 0, 0, 0, 0, 0, 0, 0, 0⟩ (by rfl) (by rfl) (by simp [Instr.fields])

theorem TableRow.normFast (w : Family) (vl : VLen) (rd rs1 : RegNum) : TableRow.Statement (.normFast w vl rd rs1) :=
  fun _ => encode_and _ 0xFFC009BF 0x000000BD ⟨63, 0, 3, 0, 1, 0, 0, 31, 31⟩ ⟨61, 0, 1, 0, 0, 0, 0, 0, 0⟩ (by rfl) (by rfl) (by simp [Instr.fields])

theorem TableRow.normFastest (w : Family) (vl : VLen) (rd rs1 : RegNum) : TableRow.Statement (.normFastest w vl rd rs1) :=
  fun _ => encode_and _ 0xFFC009BF 0x0000013D ⟨63, 0, 3, 0, 1, 0, 0, 31, 31⟩ ⟨61, 0, 2, 0, 0, 0, 0, 0, 0⟩ (by rfl) (by rfl) (by simp [Instr.fields])

theorem TableRow.clamplen (w : Family) (vl : VLen) (rd rs1 rs2 : RegNum) : TableRow.Statement (.clamplen w vl rd rs1 rs2) :=
  fun _ => encode_and _ 0xF80009BF 0x0000003E ⟨63, 0, 3, 0, 1, 0, 0, 0, 31⟩ ⟨62, 0, 0, 0, 0, 0, 0, 0, 0⟩ (by rfl) (by rfl) (by simp [Instr.fields])

theorem TableRow.clamplenFast (w : Family) (vl : VLen) (rd rs1 rs2 : RegNum) : TableRow.Statement (.clamplenFast w vl rd rs1 rs2) :=
  fun _ => encode_and _ 0xF80009BF 0x000000BE ⟨63, 0, 3, 0, 1, 0, 0, 0, 31⟩ ⟨62, 0, 1, 0, 0, 0, 0, 0, 0⟩ (by rfl) (by rfl) (by simp [Instr.fields])

theorem TableRow.clamplenFastest (w : Family) (vl : VLen) (rd rs1 rs2 : RegNum) : TableRow.Statement (.clamplenFastest w vl rd rs1 rs2) :=
  fun _ => encode_and _ 0xF80009BF 0x0000013E ⟨63, 0, 3, 0, 1, 0, 0, 0, 31⟩ ⟨62, 0, 2, 0, 0, 0, 0, 0, 0⟩ (by rfl) (by rfl) (by simp [Instr.fields])

end Sys2Proof.Laws
end

