-- ==== Sys2Proof/Laws/Step.lean ====
section
/-! SUPPORT. What a step can do, said once: every step that answers a next state is one of the cases of StepCase. -/

namespace Sys2Proof.Machine

/-- s with one access taken off the host's sequence, `rest` being what is left. -/
def State.served (s : State) (rest : List HostEvent) : State := { s with pending := rest, cmdidx := s.cmdidx + 1 }

@[simp] theorem served_faultHeld (s : State) (rest : List HostEvent) : (s.served rest).faultHeld = s.faultHeld := rfl
@[simp] theorem served_irqEn (s : State) (rest : List HostEvent) : (s.served rest).irqEn = s.irqEn := rfl
@[simp] theorem served_irq (s : State) (rest : List HostEvent) : (s.served rest).irq = s.irq := rfl
@[simp] theorem served_build (s : State) (rest : List HostEvent) : (s.served rest).build = s.build := rfl
@[simp] theorem served_cmdcnt (s : State) (rest : List HostEvent) : (s.served rest).cmdcnt = s.cmdcnt := rfl
@[simp] theorem served_readReg (s : State) (rest : List HostEvent) (r : RegNum) :
    (s.served rest).readReg r = s.readReg r := rfl

/-- The cases of a step from s that answers t. -/
inductive StepCase (s t : State) : Prop
  /-- The host's sequence has ended. -/
  | ended (h : s.pending = []) (e : t = s)
  /-- A read of the window. -/
  | read (off : Nat) (rest : List HostEvent) (h : s.pending = .access (.read off 4) :: rest)
      (e : t = (s.served rest).respond (windowRead (s.served rest) off))
  /-- A command word that is discarded. -/
  | discarded (c : Word32) (rest : List HostEvent) (h : s.pending = .access (.write 0x010 4 c) :: rest)
      (hf : s.faultHeld = true) (e : t = (s.served rest).discardCommand)
  /-- A command word that does not decode. -/
  | illegal (c : Word32) (rest : List HostEvent) (d : DecodeError) (h : s.pending = .access (.write 0x010 4 c) :: rest)
      (hf : s.faultHeld = false) (hd : decode c = .error d) (e : t = (s.served rest).enterFault c .illegalCommand 0 0 0)
  /-- A command that is executed. -/
  | command (c : Word32) (rest : List HostEvent) (i : Instr) (h : s.pending = .access (.write 0x010 4 c) :: rest)
      (hf : s.faultHeld = false) (hd : decode c = .ok i) (e : exec i (s.served rest) = .next t)
  /-- A write of the window other than to CMD. -/
  | write (off : Nat) (v : Word32) (rest : List HostEvent) (h : s.pending = .access (.write off 4 v) :: rest)
      (hc : off ≠ 0x010) (e : t = windowWrite (s.served rest) off v)
  /-- The reset input. -/
  | reset (rest : List HostEvent) (h : s.pending = .resetInput :: rest)
      (e : t = State.resetUnit { s with pending := rest })
  /-- The reset input while an access is served. -/
  | resetDuring (a : HostAccess) (rest : List HostEvent) (h : s.pending = .resetDuring a :: rest)
      (e : t = (s.served rest).resetUnit)

/-- The step serves the head of the host's sequence. -/
theorem step_of_pending (s : State) (e : HostEvent) (rest : List HostEvent) (h : s.pending = e :: rest) :
    step s = serveEvent e { s with pending := rest } := by
  unfold step State.fetch
  rw [h]

/-- The step serves the host's next access. -/
theorem step_of_access (s s' : State) (a : HostAccess) (h : NextAccess s a s') : step s = serveAccess a s' := by
  obtain ⟨rest, h, rfl⟩ := h
  exact step_of_pending s _ rest h

/-- Every step that answers a next state is one of the cases. -/
theorem step_cases (s t : State) (h : step s = .next t) : StepCase s t := by
  cases hp : s.pending with
  | nil =>
    unfold step State.fetch at h
    rw [hp] at h
    cases h
    exact .ended hp rfl
  | cons e rest =>
    rw [step_of_pending s e rest hp] at h
    cases e with
    | resetInput => cases h; exact .reset rest hp rfl
    | resetDuring a => cases h; exact .resetDuring a rest hp rfl
    | access a =>
      cases a with
      | read off size =>
        simp only [serveEvent, serveAccess, admitted] at h
        split_ifs at h with h1
        obtain rfl : size = 4 := by simpa using h1
        cases h
        exact .read off rest hp rfl
      | write off size v =>
        simp only [serveEvent, serveAccess, admitted] at h
        split_ifs at h with h1 h2 h3 h4
        · obtain rfl : size = 4 := by simpa using h1
          subst h4
          unfold writeCmd at h
          split at h
          · rename_i hf; cases h; exact .discarded v rest hp hf rfl
          · rename_i hf
            have hf : s.faultHeld = false := Bool.eq_false_iff.mpr hf
            split at h
            · rename_i i hd; exact .command v rest i hp hf hd h
            · rename_i d hd; cases h; exact .illegal v rest d hp hf hd rfl
        · obtain rfl : size = 4 := by simpa using h1
          cases h
          exact .write off v rest hp h4 rfl

/-- What a write of the window other than to CMD can do: to STATUS and to CTRL their effect, and elsewhere it
changes general registers only, or nothing. -/
theorem windowWrite_cases (s : State) (off : Nat) (v : Word32) :
    (off = 0x008 ∧ windowWrite s off v = s.writeStatus v) ∨ (off = 0x00C ∧ windowWrite s off v = s.writeCtrl v) ∨
    (off ≠ 0x008 ∧ off ≠ 0x00C ∧ ∃ r, windowWrite s off v = { s with regs := r }) := by
  by_cases h1 : off = 0x008
  · exact .inl ⟨h1, by subst h1; rfl⟩
  by_cases h2 : off = 0x00C
  · exact .inr (.inl ⟨h2, by subst h2; rfl⟩)
  refine .inr (.inr ⟨h1, h2, ?_⟩)
  unfold windowWrite
  split
  · unfold State.writeHalf
    split <;> exact ⟨_, rfl⟩
  · split
    · exact absurd rfl h1
    · exact absurd rfl h2
    · exact ⟨s.regs, rfl⟩

/-- A reset leaves irq low (60_exceptions.md R349). -/
@[simp] theorem resetUnit_irq (s : State) : s.resetUnit.irq = false := by
  simp [State.irq, State.faultHeld, State.resetUnit, State.reset]

end Sys2Proof.Machine
end

