-- ==== Sys2Proof/Tests/Slice0.lean ====
section
/-! SUPPORT. Tests of the model. Expected results are those of the spec's own vectors (95_test_vectors.md), named by
their ids, or written out from its encoding table (30_encoding.md R90, R98). At the end, one theorem for each
obligation with hypotheses shows a state and operands that meet them. -/

-- One theorem after another: side by side, so many theorems ask for more threads than the memory limit admits.
set_option Elab.async false

namespace Sys2Proof.Tests

open Sys2Proof.Machine

/-- A unit after reset, of a release or a strict build, with these values in R0, R1, ... -/
def unitWith (strict : Bool) (rs : List Word64) : State :=
  { State.reset with
    build := { Config.defaultBuild with strict := strict }, regs := setGroup State.reset.regs 0 rs }

/-- The next state of a step, if it has one. -/
def nextOf (o : Host.Outcome State Fault Refusal) : Option State :=
  match o with
  | .next t => some t
  | _ => none

/-- The state after a command word written to CMD. -/
def run (strict : Bool) (rs : List Word64) (c : Word32) : Option State :=
  nextOf (step ((unitWith strict rs).withCommand c))

/-- The register r after a command word. -/
def value (strict : Bool) (rs : List Word64) (c : Word32) (r : RegNum) : Option Word64 :=
  (run strict rs c).map fun t => t.readReg r

/-- n registers from r on after a command word, of a unit whose registers hold the family-32 values `rs`. -/
def narrows (strict : Bool) (rs : List Int) (c : Word32) (r : RegNum) (n : Nat) : Option (List Int) :=
  (run strict (rs.map (result .q16)) c).map fun t => opnds .q16 t r n

/-- The same with family-64 values. -/
def wides (strict : Bool) (rs : List Int) (c : Word32) (r : RegNum) (n : Nat) : Option (List Int) :=
  (run strict (rs.map (result .q32)) c).map fun t => opnds .q32 t r n

/-- After a command word, of a unit whose registers hold the family-32 values `rs`: FAULT_CMD is the word, FAULT_INFO
and FAULT_VAL are as given, STATUS.FAULT alone is set, and no register and not CMDCNT has changed. -/
def faults (strict : Bool) (rs : List Int) (c info : Word32) (val : Word64) : Bool :=
  match run strict (rs.map (result .q16)) c with
  | none => false
  | some t =>
    t.faultCmd == c && t.faultInfo == info && t.faultVal == val && t.status == 1 && t.cmdcnt == 0 &&
      t.regs == (unitWith strict (rs.map (result .q16))).regs

/-- The state after the host's accesses, served one after the other. -/
def serve (s : State) : List HostEvent → Option State
  | [] => some s
  | e :: es => (nextOf (step { s with pending := [e] })).bind fun t => serve t es

/-- A write of the host. -/
def w (off : Nat) (v : Word32) : HostEvent := .access (.write off 4 v)

/-- A read of the host. -/
def r (off : Nat) : HostEvent := .access (.read off 4)

/-! ## WellFormed: for each check, a term that it refuses -/

theorem test_wellFormed_groups :
    (Instr.mov .q16 .x4 29 0).wellFormed = false ∧ (Instr.mov .q16 .x4 0 29).wellFormed = false ∧
    (Instr.add .q16 .x2 false 0 0 31).wellFormed = false ∧ (Instr.cross .q16 30 0 0).wellFormed = false ∧
    (Instr.clamp .q16 .x2 false 0 0 0 31).wellFormed = false ∧ (Instr.lerp .q16 .x2 0 31 0 0).wellFormed = false ∧
    (Instr.mov .q16 .x4 28 28).wellFormed = true ∧ (Instr.lerp .q16 .x2 0 30 0 31).wellFormed = true := by decide

theorem test_wellFormed_broadcast :
    (Instr.add .q16 .x1 true 3 1 2).wellFormed = false ∧ (Instr.add .q16 .x4 true 3 1 31).wellFormed = true := by decide

theorem test_wellFormed_vectorLength :
    (Instr.dot .q16 .x1 3 0 4).wellFormed = false ∧ (Instr.lensqrw .x1 3 0).wellFormed = false ∧
    (Instr.norm .q16 .x1 3 0).wellFormed = false ∧ (Instr.dot .q16 .x2 31 0 4).wellFormed = true := by decide

theorem test_wellFormed_romIndex :
    (Instr.const .q16 5 16).wellFormed = false ∧ (Instr.const .q16 5 15).wellFormed = true := by decide

/-! ## Decode: a word of every row, written from 30_encoding.md R90 and R98 with RD = 21, RS1 = 10 (CONST: k = 13),
RS2 = 19, RS3 = 26, W = 1, VL = 3 and S = 1 where the row has them -/

theorem test_decode_conversion_1 :
  decode 0x00000000 = .ok (.nop) ∧
  decode 0x00155641 = .ok (.mov .q32 .x4 21 10) ∧
  decode 0x001B5042 = .ok (.const .q32 21 13) ∧
  decode 0x00155643 = .ok (.widen .x4 21 10) ∧
  decode 0x00155604 = .ok (.narrow .x4 21 10) ∧
  decode 0x00155045 = .ok (.fromint .q32 21 10) ∧
  decode 0x00155046 = .ok (.floor .q32 21 10) ∧
  decode 0x00155047 = .ok (.ceil .q32 21 10) ∧
  decode 0x00155048 = .ok (.round .q32 21 10) ∧
  decode 0x00155049 = .ok (.fromf .q32 21 10) ∧
  decode 0x0015504A = .ok (.fromd .q32 21 10) := by decide +kernel

theorem test_decode_conversion_2 :
  decode 0x0015504B = .ok (.tof .q32 21 10) ∧
  decode 0x0015504C = .ok (.tod .q32 21 10) := by decide +kernel

theorem test_decode_scalar_1 :
  decode 0x04D5504D = .ok (.ratio .q32 21 10 19) ∧
  decode 0x04D5504E = .ok (.cmp .q32 21 10 19) ∧
  decode 0x04D55E50 = .ok (.add .q32 .x4 true 21 10 19) ∧
  decode 0x04D55E51 = .ok (.sub .q32 .x4 true 21 10 19) ∧
  decode 0x04D55E52 = .ok (.mul .q32 .x4 true 21 10 19) ∧
  decode 0x04D55E53 = .ok (.div .q32 .x4 true 21 10 19) ∧
  decode 0x04D55ED3 = .ok (.divFast .q32 .x4 true 21 10 19) ∧
  decode 0x04D55F53 = .ok (.divFastest .q32 .x4 true 21 10 19) ∧
  decode 0x04D55FD3 = .ok (.divPrecise .q32 .x4 true 21 10 19) ∧
  decode 0x04D55E54 = .ok (.mod .q32 .x4 true 21 10 19) ∧
  decode 0x00155055 = .ok (.neg .q32 21 10) := by decide +kernel

theorem test_decode_scalar_2 :
  decode 0x00155056 = .ok (.abs .q32 21 10) ∧
  decode 0x04D55057 = .ok (.min .q32 21 10 19) ∧
  decode 0x04D55058 = .ok (.max .q32 21 10 19) := by decide +kernel

theorem test_decode_roots :
  decode 0x00155060 = .ok (.sqrt .q32 21 10) ∧
  decode 0x001550E0 = .ok (.sqrtFast .q32 21 10) ∧
  decode 0x00155160 = .ok (.sqrtFastest .q32 21 10) ∧
  decode 0x001551E0 = .ok (.sqrtPrecise .q32 21 10) ∧
  decode 0x00155061 = .ok (.rsqrt .q32 21 10) ∧
  decode 0x001550E1 = .ok (.rsqrtFast .q32 21 10) ∧
  decode 0x00155161 = .ok (.rsqrtFastest .q32 21 10) ∧
  decode 0x00155062 = .ok (.rcp .q32 21 10) ∧
  decode 0x001550E2 = .ok (.rcpFast .q32 21 10) ∧
  decode 0x00155162 = .ok (.rcpFastest .q32 21 10) := by decide +kernel

theorem test_decode_transcendental_1 :
  decode 0x00155068 = .ok (.exp2 .q32 21 10) ∧
  decode 0x001550E8 = .ok (.exp2Fast .q32 21 10) ∧
  decode 0x00155168 = .ok (.exp2Fastest .q32 21 10) ∧
  decode 0x00155069 = .ok (.log2 .q32 21 10) ∧
  decode 0x001550E9 = .ok (.log2Fast .q32 21 10) ∧
  decode 0x00155169 = .ok (.log2Fastest .q32 21 10) ∧
  decode 0x0015506A = .ok (.exp .q32 21 10) ∧
  decode 0x001550EA = .ok (.expFast .q32 21 10) ∧
  decode 0x0015516A = .ok (.expFastest .q32 21 10) ∧
  decode 0x0015506B = .ok (.log .q32 21 10) ∧
  decode 0x001550EB = .ok (.logFast .q32 21 10) := by decide +kernel

theorem test_decode_transcendental_2 :
  decode 0x0015516B = .ok (.logFastest .q32 21 10) ∧
  decode 0x04D5506C = .ok (.pow .q32 21 10 19) ∧
  decode 0x04D550EC = .ok (.powFast .q32 21 10 19) ∧
  decode 0x04D5516C = .ok (.powFastest .q32 21 10 19) ∧
  decode 0x0015506D = .ok (.sin .q32 21 10) ∧
  decode 0x001550ED = .ok (.sinFast .q32 21 10) ∧
  decode 0x0015516D = .ok (.sinFastest .q32 21 10) ∧
  decode 0x0015506E = .ok (.cos .q32 21 10) ∧
  decode 0x001550EE = .ok (.cosFast .q32 21 10) ∧
  decode 0x0015516E = .ok (.cosFastest .q32 21 10) ∧
  decode 0x0015506F = .ok (.tan .q32 21 10) := by decide +kernel

theorem test_decode_transcendental_3 :
  decode 0x001550EF = .ok (.tanFast .q32 21 10) ∧
  decode 0x0015516F = .ok (.tanFastest .q32 21 10) ∧
  decode 0x04D55070 = .ok (.atan2 .q32 21 10 19) ∧
  decode 0x04D550F0 = .ok (.atan2Fast .q32 21 10 19) ∧
  decode 0x04D55170 = .ok (.atan2Fastest .q32 21 10 19) ∧
  decode 0x00155071 = .ok (.asin .q32 21 10) ∧
  decode 0x001550F1 = .ok (.asinFast .q32 21 10) ∧
  decode 0x00155171 = .ok (.asinFastest .q32 21 10) ∧
  decode 0x00155072 = .ok (.acos .q32 21 10) ∧
  decode 0x001550F2 = .ok (.acosFast .q32 21 10) ∧
  decode 0x00155172 = .ok (.acosFastest .q32 21 10) := by decide +kernel

theorem test_decode_vector_1 :
  decode 0xD4D55E59 = .ok (.clamp .q32 .x4 true 21 10 19 26) ∧
  decode 0xD4D5565A = .ok (.lerp .q32 .x4 21 10 19 26) ∧
  decode 0x04D55678 = .ok (.dot .q32 .x4 21 10 19) ∧
  decode 0x04D55479 = .ok (.cross .q32 21 10 19) ∧
  decode 0x0015567A = .ok (.lensqr .q32 .x4 21 10) ∧
  decode 0x0015563B = .ok (.lensqrw .x4 21 10) ∧
  decode 0x0015567C = .ok (.length .q32 .x4 21 10) ∧
  decode 0x001556FC = .ok (.lengthFast .q32 .x4 21 10) ∧
  decode 0x0015577C = .ok (.lengthFastest .q32 .x4 21 10) ∧
  decode 0x001557FC = .ok (.lengthPrecise .q32 .x4 21 10) ∧
  decode 0x0015567D = .ok (.norm .q32 .x4 21 10) := by decide +kernel

theorem test_decode_vector_2 :
  decode 0x001556FD = .ok (.normFast .q32 .x4 21 10) ∧
  decode 0x0015577D = .ok (.normFastest .q32 .x4 21 10) ∧
  decode 0x04D5567E = .ok (.clamplen .q32 .x4 21 10 19) ∧
  decode 0x04D556FE = .ok (.clamplenFast .q32 .x4 21 10 19) ∧
  decode 0x04D5577E = .ok (.clamplenFastest .q32 .x4 21 10 19) := by decide +kernel

/-- Vectors E2 to E25. -/
theorem test_decode_vectors :
    decode 0x00001000 = .error .unusedField ∧
    decode 0x00823810 = .error .broadcast ∧
    decode 0x01008A10 = .ok (.add .q16 .x2 true 8 0 4) ∧
    decode 0x000221A8 = .error .tier ∧
    decode 0x000221A1 = .error .tier ∧
    decode 0x001C5002 = .ok (.const .q16 5 14) ∧
    decode 0x00205002 = .error .constIndex ∧
    decode 0x01008239 = .error .vectorLength ∧
    decode 0x0101C610 = .ok (.add .q16 .x4 false 28 0 4) ∧
    decode 0x0101E610 = .error .groupRange ∧
    decode 0x00022003 = .error .family ∧
    decode 0x00022043 = .ok (.widen .x1 2 1) ∧
    decode 0x0000327B = .error .family ∧
    decode 0x00C41001 = .error .unusedField ∧
    decode 0x20808A1A = .error .broadcast ∧
    decode 0x01003038 = .error .vectorLength ∧
    decode 0x07D54E54 = .ok (.mod .q32 .x4 true 20 10 31) ∧
    decode 0x0000003F = .error .reservedOpcode ∧
    decode 0x0000D00F = .error .reservedOpcode ∧
    decode 0xFFFFFFFF = .error .reservedOpcode ∧
    decode 0x0048AB13 = .ok (.divFastest .q16 .x2 true 10 4 1) ∧
    decode 0x29008A19 = .ok (.clamp .q16 .x2 true 8 0 4 5) := by decide +kernel

/-- T26: OP 0x28, 0x2D, 0x2F, 0x30, 0x2A, 0x2E with TIER = 3. -/
theorem test_decode_no_precise_transcendental :
    [0x28, 0x2D, 0x2F, 0x30, 0x2A, 0x2E].all (fun op : Nat => !legal (BitVec.ofNat 32 (op + 3 * 128))) = true := by
  decide +kernel

theorem test_encode_inverts_examples :
    encode (.add .q16 .x1 false 3 1 2) = 0x00823010 ∧ encode (.divFastest .q16 .x2 true 10 4 1) = 0x0048AB13 ∧
    encode (.lerp .q16 .x2 8 0 2 4) = 0x2080821A ∧ encode (.normFast .q32 .x3 8 0) = 0x000084FD := by decide +kernel

theorem test_decodeTableWord :
    decodeTableWord 32 0x00823193 = some (.divPrecise .q16 .x1 false 3 1 2) ∧ decodeTableWord 32 0x0000003F = none := by
  decide +kernel

/-- 30_encoding.md R107: what sub1 and qconj expand to. -/
theorem test_pseudo :
    (Pseudo.sub1 .q16 3 1 2).expand = [.const .q16 2 1, .sub .q16 .x1 false 3 2 1] ∧
    (Pseudo.qconj 8 0).expand = [.neg .q32 8 0, .neg .q32 9 1, .neg .q32 10 2, .mov .q32 .x1 11 3] := by decide

/-! ## Data movement and conversion (vectors V) -/

theorem test_nop :
    (run true [] 0x00000000).map (fun t => (t.cmdcnt, t.status, t.regs == State.reset.regs)) = some (1, 0, true) := by decide +kernel

/-- V1, V2. -/
theorem test_mov :
    value false [0, 0, 0x1234567880000000] 0x00041001 1 = some 0xFFFFFFFF80000000 ∧
    value false [0, 0, 0x1234567880000000] 0x00041041 1 = some 0x1234567880000000 := by decide +kernel

/-- V3, V4, E9. -/
theorem test_const :
    value false [] 0x00085002 5 = some 0x3243F ∧
    value false [] 0x001A5042 5 = some 0x2B7E15163 ∧
    value false [0, 0, 0, 0, 0, 7] 0x001C5002 5 = some 0 := by decide +kernel

/-- V5 to V7. -/
theorem test_widen :
    value false [0, 0xFFFF8000] 0x00022043 2 = some 0xFFFFFFFF80000000 ∧
    value false [0, 0x80000000] 0x00022043 2 = some 0xFFFF800000000000 ∧
    value false [0, 0x7FFFFFFF] 0x00022043 2 = some 0x00007FFFFFFF0000 := by decide +kernel

/-- V8 to V11. -/
theorem test_narrow :
    value false [0, 0x180000001] 0x00022004 2 = some 0x18000 ∧
    value false [0, 0x0000800000000000] 0x00022004 2 = some 0xFFFFFFFF80000000 ∧
    value false [0, 0xFFFFFFFFFFFFFFFF] 0x00022004 2 = some 0xFFFFFFFFFFFFFFFF ∧
    value false [0, 0xFFFF] 0x00022004 2 = some 0 := by decide +kernel

/-- V12 to V15. -/
theorem test_fromint :
    narrows false [0, 3] 0x00022005 2 1 = some [196608] ∧
    narrows false [0, 32768] 0x00022005 2 1 = some [-2147483648] ∧
    narrows false [0, -32769] 0x00022005 2 1 = some [2147418112] ∧
    value false [0, 0x80000000] 0x00022045 2 = some 0x8000000000000000 := by decide +kernel

/-- V16, V18, V19, V21 to V23, V25. -/
theorem test_floor :
    narrows false [0, -98304] 0x00022006 2 1 = some [-2] ∧
    narrows false [0, 163840] 0x00022006 2 1 = some [2] ∧
    narrows false [0, -163840] 0x00022006 2 1 = some [-3] ∧
    narrows false [0, 1] 0x00022006 2 1 = some [0] ∧
    narrows false [0, -1] 0x00022006 2 1 = some [-1] ∧
    narrows false [0, 2147483647] 0x00022006 2 1 = some [32767] ∧
    narrows false [0, -2147483648] 0x00022006 2 1 = some [-32768] := by decide +kernel

/-- V16, V18, V19, V21 to V23, V25. -/
theorem test_ceil :
    narrows false [0, -98304] 0x00022007 2 1 = some [-1] ∧
    narrows false [0, 163840] 0x00022007 2 1 = some [3] ∧
    narrows false [0, -163840] 0x00022007 2 1 = some [-2] ∧
    narrows false [0, 1] 0x00022007 2 1 = some [1] ∧
    narrows false [0, -1] 0x00022007 2 1 = some [0] ∧
    narrows false [0, 2147483647] 0x00022007 2 1 = some [-32768] ∧
    narrows false [0, -2147483648] 0x00022007 2 1 = some [-32768] := by decide +kernel

/-- V16, V18, V19, V21 to V23, V25. -/
theorem test_round :
    narrows false [0, -98304] 0x00022008 2 1 = some [-1] ∧
    narrows false [0, 163840] 0x00022008 2 1 = some [3] ∧
    narrows false [0, -163840] 0x00022008 2 1 = some [-2] ∧
    narrows false [0, 1] 0x00022008 2 1 = some [0] ∧
    narrows false [0, -1] 0x00022008 2 1 = some [0] ∧
    narrows false [0, 2147483647] 0x00022008 2 1 = some [-32768] ∧
    narrows false [0, -2147483648] 0x00022008 2 1 = some [-32768] := by decide +kernel

/-- V26 to V29, V33; V30 with the pattern of 32767.0f (assumption log 19). -/
theorem test_fromf :
    value false [0, 0x3FC00000] 0x00022009 2 = some 0x18000 ∧
    value false [0, 0xBF400000] 0x00022009 2 = some 0xFFFFFFFFFFFF4000 ∧
    value false [0, 0xB7000000] 0x00022009 2 = some 0 ∧
    value false [0, 0x00000001] 0x00022009 2 = some 0 ∧
    value false [0, 0x37800000] 0x00022009 2 = some 1 ∧
    value false [0, 0x46FFFE00] 0x00022009 2 = some 0x7FFF0000 ∧
    value false [0, 0xCF000000] 0x00022049 2 = some 0x8000000000000000 := by decide +kernel

/-- V31: the result is draw 0. -/
theorem test_fromf_out_of_range :
    run false [0, 0x47000000] 0x00022009 = some { unitWith false [0, 0x47000000, result .q16 (Config.fltcvtOor 0 .q16).toInt] with cmdcnt := 1, cmdidx := 1, draws := 1 } := by rfl

/-- V35; and -2.5 in family 32 from all 64 bits (40_conversion.md R141). -/
theorem test_fromd :
    value false [0, 0x4004000000000000] 0x0002204A 2 = some 0x280000000 ∧
    value false [0, 0xC004000000000000] 0x0002200A 2 = some 0xFFFFFFFFFFFD8000 := by decide +kernel

/-- V36 to V42. -/
theorem test_tof :
    value false [0, 0x18000] 0x0002200B 2 = some 0x3FC00000 ∧
    value false [0, 1] 0x0002200B 2 = some 0x37800000 ∧
    value false [0, 0] 0x0002200B 2 = some 0 ∧
    value false [0, 0xFFFF0000] 0x0002200B 2 = some 0xBF800000 ∧
    value false [0, 0x7FFFFFFF] 0x0002200B 2 = some 0x47000000 ∧
    value false [0, 0x80000000] 0x0002200B 2 = some 0xC7000000 ∧
    value false [0, 0x01000001] 0x0002200B 2 = some 0x43800000 := by decide +kernel

/-- V43 to V46. -/
theorem test_tod :
    value false [0, 0x280000000] 0x0002204C 2 = some 0x4004000000000000 ∧
    value false [0, 0xFFFE8000] 0x0002200C 2 = some 0xBFF8000000000000 ∧
    value false [0, 0x7FFFFFFF] 0x0002200C 2 = some 0x40DFFFFFFFC00000 ∧
    value false [0, 1] 0x0002204C 2 = some 0x3DF0000000000000 := by decide +kernel

/-! ## Scalar arithmetic (vectors A, S) -/

/-- A2, W1, and W2: the old R1 is used. -/
theorem test_add :
    narrows false [0, 2147483647, 1] 0x00823010 3 1 = some [-2147483648] ∧
    narrows false [65536, 131072, 196608, 0, 32768, 32768, -262144] 0x01008410 8 3 = some [98304, 163840, -65536] ∧
    narrows false [65536, 131072, 0, 0, 655360, 1310720] 0x01001210 1 2 = some [720896, 1441792] := by decide +kernel

/-- A3 to A5. -/
theorem test_sub :
    narrows false [0, 98304, 163840] 0x00823011 3 1 = some [-65536] ∧
    narrows false [0, 0, -2147483648] 0x00823011 3 1 = some [-2147483648] ∧
    narrows false [0, -2147483648, 1] 0x00823011 3 1 = some [2147483647] := by decide +kernel

/-- A7, A8, A13, A15. -/
theorem test_mul :
    narrows false [0, -98304, 131072] 0x00823012 3 1 = some [-196608] ∧
    narrows false [0, -1, 1] 0x00823012 3 1 = some [-1] ∧
    narrows false [0, 2147483647, 2147483647] 0x00823012 3 1 = some [-65536] ∧
    wides false [0, 6442450944, 8589934592] 0x00823052 3 1 = some [12884901888] := by decide +kernel

/-- P1, command 2: each component times R3. -/
theorem test_mul_broadcast :
    narrows false [0, 0, 0, 262144, 32768, -65536, 131072] 0x00C8CC12 12 3 = some [131072, -262144, 524288] := by decide +kernel

/-- A30 to A32. -/
theorem test_div :
    value false [0, 0x30000, 0x20000] 0x00824013 4 = some (result .q16 (cfgDivPos Config.defaultBuild .q16 .base 0x30000 0x20000)) ∧
    value false [0, 0x30000, 0xFFFE0000] 0x00824013 4 = some (result .q16 (wrap 32 (-cfgDivPos Config.defaultBuild .q16 .base 0x30000 0x20000))) ∧
    value false [0, 0x30000, 0x80000000] 0x00824013 4 = some 0 := ⟨by rfl, by rfl, by decide +kernel⟩

/-- A30 to A32. -/
theorem test_divFast :
    value false [0, 0x30000, 0x20000] 0x00824093 4 = some (result .q16 (cfgDivPos Config.defaultBuild .q16 .fast 0x30000 0x20000)) ∧
    value false [0, 0x30000, 0xFFFE0000] 0x00824093 4 = some (result .q16 (wrap 32 (-cfgDivPos Config.defaultBuild .q16 .fast 0x30000 0x20000))) ∧
    value false [0, 0x30000, 0x80000000] 0x00824093 4 = some 0 := ⟨by rfl, by rfl, by decide +kernel⟩

/-- A30 to A32. -/
theorem test_divFastest :
    value false [0, 0x30000, 0x20000] 0x00824113 4 = some (result .q16 (cfgDivPos Config.defaultBuild .q16 .fastest 0x30000 0x20000)) ∧
    value false [0, 0x30000, 0xFFFE0000] 0x00824113 4 = some (result .q16 (wrap 32 (-cfgDivPos Config.defaultBuild .q16 .fastest 0x30000 0x20000))) ∧
    value false [0, 0x30000, 0x80000000] 0x00824113 4 = some 0 := ⟨by rfl, by rfl, by decide +kernel⟩

/-- A16 to A18, A21, A22, A25, A29. -/
theorem test_divPrecise :
    narrows false [0, 65536, 196608] 0x00824193 4 1 = some [21845] ∧
    narrows false [0, -65536, 196608] 0x00824193 4 1 = some [-21845] ∧
    narrows false [0, 65536, -196608] 0x00824193 4 1 = some [-21845] ∧
    narrows false [0, -2147483648, -65536] 0x00824193 4 1 = some [-2147483648] ∧
    narrows false [0, 2147483647, 1] 0x00824193 4 1 = some [-65536] ∧
    narrows false [0, 65536, -2147483648] 0x00824193 4 1 = some [0] ∧
    wides false [0, -4294967296, 12884901888] 0x008241D3 4 1 = some [-1431655765] := by decide +kernel

/-- A27, W42, W41. -/
theorem test_divPrecise_strict :
    faults true [0, 65536, -2147483648] 0x00824193 0x22 0xFFFFFFFF80000000 = true ∧
    faults true [65536, 65536, 0, 0, 131072, 0] 0x01008393 0x62 0 = true ∧
    faults true [65536, 65536, 0, 0, 0, -2147483648] 0x01008393 0x22 0 = true := by decide +kernel

/-- A33 to A35, A37, A39. -/
theorem test_mod :
    narrows false [0, 360448, 131072] 0x00823014 3 1 = some [98304] ∧
    narrows false [0, -360448, 131072] 0x00823014 3 1 = some [-98304] ∧
    narrows false [0, 360448, -131072] 0x00823014 3 1 = some [98304] ∧
    narrows false [0, -2147483648, -1] 0x00823014 3 1 = some [0] ∧
    narrows false [0, 74565, -2147483648] 0x00823014 3 1 = some [74565] := by decide +kernel

/-- A40. -/
theorem test_mod_strict :
    faults true [0, 5, 0] 0x00823014 0x22 0 = true := by decide +kernel

/-- A41, A42. -/
theorem test_neg :
    narrows false [0, 98304] 0x00022015 2 1 = some [-98304] ∧
    narrows false [0, -2147483648] 0x00022015 2 1 = some [-2147483648] := by decide +kernel

/-- A43, A44. -/
theorem test_abs :
    narrows false [0, -98304] 0x00022016 2 1 = some [98304] ∧
    narrows false [0, -2147483648] 0x00022016 2 1 = some [-2147483648] := by decide +kernel

/-- A45 to A48. -/
theorem test_cmp :
    narrows false [0, -2147483648, 2147483647] 0x0082300E 3 1 = some [-1] ∧
    narrows false [0, 5, 5] 0x0082300E 3 1 = some [0] ∧
    narrows false [0, 65536, -65536] 0x0082300E 3 1 = some [1] ∧
    value false [0, 0x18000, 0x28000] 0x0082300E 3 = some 0xFFFFFFFFFFFFFFFF := by decide +kernel

/-- A49. -/
theorem test_min :
    narrows false [0, -65536, 65536] 0x00823017 3 1 = some [-65536] := by decide +kernel

/-- A49. -/
theorem test_max :
    narrows false [0, -65536, 65536] 0x00823018 3 1 = some [65536] := by decide +kernel

/-- A51, A52, A54 to A56. -/
theorem test_ratio :
    narrows false [0, -1, 3] 0x0082300D 3 1 = some [-21845] ∧
    narrows false [0, 7, -2] 0x0082300D 3 1 = some [-229376] ∧
    narrows false [0, 40000, 1] 0x0082300D 3 1 = some [-1673527296] ∧
    narrows false [0, 1, -2147483648] 0x0082300D 3 1 = some [0] ∧
    wides false [0, 3, 4] 0x0082304D 3 1 = some [3221225472] := by decide +kernel

/-- A57. -/
theorem test_ratio_strict :
    faults true [0, 5, 0] 0x0082300D 0x22 0 = true := by decide +kernel

/-! ## Roots and reciprocals (vectors Q) -/

/-- Q1, Q5 to Q7, Q9 to Q13. -/
theorem test_sqrtPrecise :
    narrows false [0, 131072] 0x000221A0 2 1 = some [92681] ∧
    narrows false [0, 1] 0x000221A0 2 1 = some [256] ∧
    narrows false [0, 2] 0x000221A0 2 1 = some [362] ∧
    narrows false [0, 16385] 0x000221A0 2 1 = some [32768] ∧
    narrows false [0, 2147483647] 0x000221A0 2 1 = some [11863283] ∧
    narrows false [0, 0] 0x000221A0 2 1 = some [0] ∧
    narrows false [0, -1] 0x000221A0 2 1 = some [0] ∧
    wides false [0, 8589934592] 0x000221E0 2 1 = some [6074000999] ∧
    wides false [0, 9223372036854775807] 0x000221E0 2 1 = some [199032864766430] := by decide +kernel

/-- Q11. -/
theorem test_sqrtPrecise_strict :
    faults true [0, -1] 0x000221A0 0x12 0xFFFFFFFFFFFFFFFF = true := by decide +kernel

/-- Q14, Q15, S15. -/
theorem test_sqrt :
    value false [0, 0x20000] 0x00022020 2 = some (result .q16 (cfgSqrtPos Config.defaultBuild .q16 .base 0x20000)) ∧
    narrows false [0, 0] 0x00022020 2 1 = some [0] ∧
    faults true [0, -65536] 0x00022020 0x12 0xFFFFFFFFFFFF0000 = true := ⟨by rfl, by decide +kernel, by decide +kernel⟩

/-- Q14, Q15, S15. -/
theorem test_sqrtFast :
    value false [0, 0x20000] 0x000220A0 2 = some (result .q16 (cfgSqrtPos Config.defaultBuild .q16 .fast 0x20000)) ∧
    narrows false [0, 0] 0x000220A0 2 1 = some [0] ∧
    faults true [0, -65536] 0x000220A0 0x12 0xFFFFFFFFFFFF0000 = true := ⟨by rfl, by decide +kernel, by decide +kernel⟩

/-- Q14, Q15, S15. -/
theorem test_sqrtFastest :
    value false [0, 0x20000] 0x00022120 2 = some (result .q16 (cfgSqrtPos Config.defaultBuild .q16 .fastest 0x20000)) ∧
    narrows false [0, 0] 0x00022120 2 1 = some [0] ∧
    faults true [0, -65536] 0x00022120 0x12 0xFFFFFFFFFFFF0000 = true := ⟨by rfl, by decide +kernel, by decide +kernel⟩

/-- Q16, Q17. -/
theorem test_rsqrt :
    value false [0, 0x20000] 0x00022021 2 = some (result .q16 (cfgRsqrtPos Config.defaultBuild .q16 .base 0x20000)) ∧
    narrows false [0, 0] 0x00022021 2 1 = some [0] ∧
    faults true [0, 0] 0x00022021 0x12 0 = true := ⟨by rfl, by decide +kernel, by decide +kernel⟩

/-- Q16, Q17. -/
theorem test_rsqrtFast :
    value false [0, 0x20000] 0x000220A1 2 = some (result .q16 (cfgRsqrtPos Config.defaultBuild .q16 .fast 0x20000)) ∧
    narrows false [0, 0] 0x000220A1 2 1 = some [0] ∧
    faults true [0, 0] 0x000220A1 0x12 0 = true := ⟨by rfl, by decide +kernel, by decide +kernel⟩

/-- Q16, Q17. -/
theorem test_rsqrtFastest :
    value false [0, 0x20000] 0x00022121 2 = some (result .q16 (cfgRsqrtPos Config.defaultBuild .q16 .fastest 0x20000)) ∧
    narrows false [0, 0] 0x00022121 2 1 = some [0] ∧
    faults true [0, 0] 0x00022121 0x12 0 = true := ⟨by rfl, by decide +kernel, by decide +kernel⟩

/-- Q18 to Q20. -/
theorem test_rcp :
    value false [0, 0xFFFE0000] 0x00022022 2 = some (result .q16 (wrap 32 (-cfgRcpPos Config.defaultBuild .q16 .base 0x20000))) ∧
    narrows false [0, -2147483648] 0x00022022 2 1 = some [0] ∧
    faults true [0, -2147483648] 0x00022022 0x12 0xFFFFFFFF80000000 = true := ⟨by rfl, by decide +kernel, by decide +kernel⟩

/-- Q18 to Q20. -/
theorem test_rcpFast :
    value false [0, 0xFFFE0000] 0x000220A2 2 = some (result .q16 (wrap 32 (-cfgRcpPos Config.defaultBuild .q16 .fast 0x20000))) ∧
    narrows false [0, -2147483648] 0x000220A2 2 1 = some [0] ∧
    faults true [0, -2147483648] 0x000220A2 0x12 0xFFFFFFFF80000000 = true := ⟨by rfl, by decide +kernel, by decide +kernel⟩

/-- Q18 to Q20. -/
theorem test_rcpFastest :
    value false [0, 0xFFFE0000] 0x00022122 2 = some (result .q16 (wrap 32 (-cfgRcpPos Config.defaultBuild .q16 .fastest 0x20000))) ∧
    narrows false [0, -2147483648] 0x00022122 2 1 = some [0] ∧
    faults true [0, -2147483648] 0x00022122 0x12 0xFFFFFFFF80000000 = true := ⟨by rfl, by decide +kernel, by decide +kernel⟩

/-! ## Transcendentals (vectors T) -/

/-- 43_transcendental.md R240. -/
theorem test_exp2 :
    value false [0, 0x10000] 0x00022028 2 = some (result .q16 (cfgExp2 Config.defaultBuild .q16 .base 0x10000)) := by rfl

/-- 43_transcendental.md R240. -/
theorem test_exp2Fast :
    value false [0, 0x10000] 0x000220A8 2 = some (result .q16 (cfgExp2 Config.defaultBuild .q16 .fast 0x10000)) := by rfl

/-- 43_transcendental.md R240. -/
theorem test_exp2Fastest :
    value false [0, 0x10000] 0x00022128 2 = some (result .q16 (cfgExp2 Config.defaultBuild .q16 .fastest 0x10000)) := by rfl

/-- T7, T8. -/
theorem test_log2 :
    value false [0, 0x10000] 0x00022029 2 = some (result .q16 (cfgLog2Pos Config.defaultBuild .q16 .base 0x10000)) ∧
    narrows false [0, -2147483648] 0x00022029 2 1 = some [0] ∧
    faults true [0, 0] 0x00022029 0x12 0 = true := ⟨by rfl, by decide +kernel, by decide +kernel⟩

/-- T7, T8. -/
theorem test_log2Fast :
    value false [0, 0x10000] 0x000220A9 2 = some (result .q16 (cfgLog2Pos Config.defaultBuild .q16 .fast 0x10000)) ∧
    narrows false [0, -2147483648] 0x000220A9 2 1 = some [0] ∧
    faults true [0, 0] 0x000220A9 0x12 0 = true := ⟨by rfl, by decide +kernel, by decide +kernel⟩

/-- T7, T8. -/
theorem test_log2Fastest :
    value false [0, 0x10000] 0x00022129 2 = some (result .q16 (cfgLog2Pos Config.defaultBuild .q16 .fastest 0x10000)) ∧
    narrows false [0, -2147483648] 0x00022129 2 1 = some [0] ∧
    faults true [0, 0] 0x00022129 0x12 0 = true := ⟨by rfl, by decide +kernel, by decide +kernel⟩

/-- T2, T4. -/
theorem test_exp :
    value false [0, 0xFFFF0000] 0x0002202A 2 = some (result .q16 (cfgExp2 Config.defaultBuild .q16 .base (-94548))) ∧
    value false [0, 0x7FFFFFFF] 0x0002202A 2 = some (result .q16 (cfgExp2 Config.defaultBuild .q16 .base (-1196818434))) := ⟨by rfl, by rfl⟩

/-- T2, T4. -/
theorem test_expFast :
    value false [0, 0xFFFF0000] 0x000220AA 2 = some (result .q16 (cfgExp2 Config.defaultBuild .q16 .fast (-94548))) ∧
    value false [0, 0x7FFFFFFF] 0x000220AA 2 = some (result .q16 (cfgExp2 Config.defaultBuild .q16 .fast (-1196818434))) := ⟨by rfl, by rfl⟩

/-- T2, T4. -/
theorem test_expFastest :
    value false [0, 0xFFFF0000] 0x0002212A 2 = some (result .q16 (cfgExp2 Config.defaultBuild .q16 .fastest (-94548))) ∧
    value false [0, 0x7FFFFFFF] 0x0002212A 2 = some (result .q16 (cfgExp2 Config.defaultBuild .q16 .fastest (-1196818434))) := ⟨by rfl, by rfl⟩

/-- T5, T7. -/
theorem test_log :
    value false [0, 0x20000] 0x0002202B 2 = some (result .q16 (wrap 32 (asr (cfgLog2Pos Config.defaultBuild .q16 .base 0x20000 * 45426) 16))) ∧
    narrows false [0, 0] 0x0002202B 2 1 = some [0] := ⟨by rfl, by decide +kernel⟩

/-- T5, T7. -/
theorem test_logFast :
    value false [0, 0x20000] 0x000220AB 2 = some (result .q16 (wrap 32 (asr (cfgLog2Pos Config.defaultBuild .q16 .fast 0x20000 * 45426) 16))) ∧
    narrows false [0, 0] 0x000220AB 2 1 = some [0] := ⟨by rfl, by decide +kernel⟩

/-- T5, T7. -/
theorem test_logFastest :
    value false [0, 0x20000] 0x0002212B 2 = some (result .q16 (wrap 32 (asr (cfgLog2Pos Config.defaultBuild .q16 .fastest 0x20000 * 45426) 16))) ∧
    narrows false [0, 0] 0x0002212B 2 1 = some [0] := ⟨by rfl, by decide +kernel⟩

/-- T11, T9, T10. -/
theorem test_pow :
    value false [0, 0x20000, 0] 0x0082302C 3 = some (result .q16 (cfgExp2 Config.defaultBuild .q16 .base (mulW Config.defaultBuild .q16 (mulW Config.defaultBuild .q16 0 (mulW Config.defaultBuild .q16 (cfgLog2Pos Config.defaultBuild .q16 .base 0x20000) 45426)) 94548))) ∧
    narrows false [0, -131072, 65536] 0x0082302C 3 1 = some [0] ∧
    faults true [0, 0, 65536] 0x0082302C 0x12 0 = true := ⟨by rfl, by decide +kernel, by decide +kernel⟩

/-- T11, T9, T10. -/
theorem test_powFast :
    value false [0, 0x20000, 0] 0x008230AC 3 = some (result .q16 (cfgExp2 Config.defaultBuild .q16 .fast (mulW Config.defaultBuild .q16 (mulW Config.defaultBuild .q16 0 (mulW Config.defaultBuild .q16 (cfgLog2Pos Config.defaultBuild .q16 .fast 0x20000) 45426)) 94548))) ∧
    narrows false [0, -131072, 65536] 0x008230AC 3 1 = some [0] ∧
    faults true [0, 0, 65536] 0x008230AC 0x12 0 = true := ⟨by rfl, by decide +kernel, by decide +kernel⟩

/-- T11, T9, T10. -/
theorem test_powFastest :
    value false [0, 0x20000, 0] 0x0082312C 3 = some (result .q16 (cfgExp2 Config.defaultBuild .q16 .fastest (mulW Config.defaultBuild .q16 (mulW Config.defaultBuild .q16 0 (mulW Config.defaultBuild .q16 (cfgLog2Pos Config.defaultBuild .q16 .fastest 0x20000) 45426)) 94548))) ∧
    narrows false [0, -131072, 65536] 0x0082312C 3 1 = some [0] ∧
    faults true [0, 0, 65536] 0x0082312C 0x12 0 = true := ⟨by rfl, by decide +kernel, by decide +kernel⟩

/-- T16. -/
theorem test_sin :
    value false [0, 0x10000] 0x0002202D 2 = some (result .q16 (cfgSin Config.defaultBuild .q16 .base 0x10000)) ∧
    narrows true [0, 0] 0x0002202D 2 1 = some [0] := ⟨by rfl, by decide +kernel⟩

/-- T16. -/
theorem test_sinFast :
    value false [0, 0x10000] 0x000220AD 2 = some (result .q16 (cfgSin Config.defaultBuild .q16 .fast 0x10000)) ∧
    narrows true [0, 0] 0x000220AD 2 1 = some [0] := ⟨by rfl, by decide +kernel⟩

/-- T16. -/
theorem test_sinFastest :
    value false [0, 0x10000] 0x0002212D 2 = some (result .q16 (cfgSin Config.defaultBuild .q16 .fastest 0x10000)) ∧
    narrows true [0, 0] 0x0002212D 2 1 = some [0] := ⟨by rfl, by decide +kernel⟩

/-- T14, T13. -/
theorem test_cos :
    value false [0, 0x7FFFFFFF] 0x0002202E 2 = some (result .q16 (cfgSin Config.defaultBuild .q16 .base (-2147380705))) ∧
    narrows false [0, -102944] 0x0002202E 2 1 = some [0] := ⟨by rfl, by decide +kernel⟩

/-- T14, T13. -/
theorem test_cosFast :
    value false [0, 0x7FFFFFFF] 0x000220AE 2 = some (result .q16 (cfgSin Config.defaultBuild .q16 .fast (-2147380705))) ∧
    narrows false [0, -102944] 0x000220AE 2 1 = some [0] := ⟨by rfl, by decide +kernel⟩

/-- T14, T13. -/
theorem test_cosFastest :
    value false [0, 0x7FFFFFFF] 0x0002212E 2 = some (result .q16 (cfgSin Config.defaultBuild .q16 .fastest (-2147380705))) ∧
    narrows false [0, -102944] 0x0002212E 2 1 = some [0] := ⟨by rfl, by decide +kernel⟩

/-- T17. -/
theorem test_tan :
    value true [0, 0x19220] 0x0002202F 2 = some (result .q16 (cfgTan (unitWith true []).build .q16 .base 102944)) := by rfl

/-- T17. -/
theorem test_tanFast :
    value true [0, 0x19220] 0x000220AF 2 = some (result .q16 (cfgTan (unitWith true []).build .q16 .fast 102944)) := by rfl

/-- T17. -/
theorem test_tanFastest :
    value true [0, 0x19220] 0x0002212F 2 = some (result .q16 (cfgTan (unitWith true []).build .q16 .fastest 102944)) := by rfl

/-- S2 to S5. -/
theorem test_atan2 :
    narrows false [0, 0, 65536] 0x00823030 3 1 = some [0] ∧
    narrows false [0, 65536, 0] 0x00823030 3 1 = some [102944] ∧
    narrows false [0, 0, -65536] 0x00823030 3 1 = some [205887] ∧
    narrows false [0, -65536, 0] 0x00823030 3 1 = some [-102944] ∧
    wides false [0, -4294967296, 0] 0x00823070 3 1 = some [-6746518852] := by decide +kernel

/-- S2 to S5. -/
theorem test_atan2Fast :
    narrows false [0, 0, 65536] 0x008230B0 3 1 = some [0] ∧
    narrows false [0, 65536, 0] 0x008230B0 3 1 = some [102944] ∧
    narrows false [0, 0, -65536] 0x008230B0 3 1 = some [205887] ∧
    narrows false [0, -65536, 0] 0x008230B0 3 1 = some [-102944] ∧
    wides false [0, -4294967296, 0] 0x008230F0 3 1 = some [-6746518852] := by decide +kernel

/-- S2 to S5. -/
theorem test_atan2Fastest :
    narrows false [0, 0, 65536] 0x00823130 3 1 = some [0] ∧
    narrows false [0, 65536, 0] 0x00823130 3 1 = some [102944] ∧
    narrows false [0, 0, -65536] 0x00823130 3 1 = some [205887] ∧
    narrows false [0, -65536, 0] 0x00823130 3 1 = some [-102944] ∧
    wides false [0, -4294967296, 0] 0x00823170 3 1 = some [-6746518852] := by decide +kernel

/-- T20, T25, T21, T22. -/
theorem test_asin :
    narrows false [0, -65536] 0x00022031 2 1 = some [-102944] ∧
    wides false [0, 4294967296] 0x00022071 2 1 = some [6746518852] ∧
    value false [0, 0x8000] 0x00022031 2 = some (result .q16 (wrap 32 (asr (cfgAtan2 Config.defaultBuild .q32 .base 0x80000000 (cfgSqrtPos Config.defaultBuild .q32 .base 0xC0000000)) 16))) ∧
    faults true [0, 65537] 0x00022031 0x12 0x10001 = true := ⟨by decide +kernel, by decide +kernel, by rfl, by decide +kernel⟩

/-- T20, T25, T21, T22. -/
theorem test_asinFast :
    narrows false [0, -65536] 0x000220B1 2 1 = some [-102944] ∧
    wides false [0, 4294967296] 0x000220F1 2 1 = some [6746518852] ∧
    value false [0, 0x8000] 0x000220B1 2 = some (result .q16 (wrap 32 (asr (cfgAtan2 Config.defaultBuild .q32 .fast 0x80000000 (cfgSqrtPos Config.defaultBuild .q32 .fast 0xC0000000)) 16))) ∧
    faults true [0, 65537] 0x000220B1 0x12 0x10001 = true := ⟨by decide +kernel, by decide +kernel, by rfl, by decide +kernel⟩

/-- T20, T25, T21, T22. -/
theorem test_asinFastest :
    narrows false [0, -65536] 0x00022131 2 1 = some [-102944] ∧
    wides false [0, 4294967296] 0x00022171 2 1 = some [6746518852] ∧
    value false [0, 0x8000] 0x00022131 2 = some (result .q16 (wrap 32 (asr (cfgAtan2 Config.defaultBuild .q32 .fastest 0x80000000 (cfgSqrtPos Config.defaultBuild .q32 .fastest 0xC0000000)) 16))) ∧
    faults true [0, 65537] 0x00022131 0x12 0x10001 = true := ⟨by decide +kernel, by decide +kernel, by rfl, by decide +kernel⟩

/-- T23, T24, T22. -/
theorem test_acos :
    narrows false [0, -65536] 0x00022032 2 1 = some [205887] ∧
    narrows false [0, 65536] 0x00022032 2 1 = some [0] ∧
    faults true [0, 65537] 0x00022032 0x12 0x10001 = true := by decide +kernel

/-- T23, T24, T22. -/
theorem test_acosFast :
    narrows false [0, -65536] 0x000220B2 2 1 = some [205887] ∧
    narrows false [0, 65536] 0x000220B2 2 1 = some [0] ∧
    faults true [0, 65537] 0x000220B2 0x12 0x10001 = true := by decide +kernel

/-- T23, T24, T22. -/
theorem test_acosFastest :
    narrows false [0, -65536] 0x00022132 2 1 = some [205887] ∧
    narrows false [0, 65536] 0x00022132 2 1 = some [0] ∧
    faults true [0, 65537] 0x00022132 0x12 0x10001 = true := by decide +kernel

/-! ## Vectors (vectors W) -/

/-- W3 to W5. -/
theorem test_clamp :
    narrows false [196608, 0, 65536] 0x10403019 3 1 = some [65536] ∧
    narrows false [4, 5, 3] 0x10403019 3 1 = some [5] ∧
    narrows false [6, 5, 3] 0x10403019 3 1 = some [3] := by decide +kernel

/-- W6, W9, W11 (component 0 of each). -/
theorem test_lerp :
    narrows false [0, 65536, 131072, 196608, 32768] 0x2080821A 8 2 = some [65536, 131072] ∧
    narrows false [-1, 65536, 0, 196608, 32768] 0x2080821A 8 2 = some [-1, 131072] ∧
    narrows false [65536, 0, 196608, 65536, -65536] 0x2080821A 8 2 = some [-65536, -65536] := by decide +kernel

/-- W12 to W14. -/
theorem test_dot :
    narrows false [65536, 131072, 196608, 0, 262144, -327680, 393216] 0x01003438 3 1 = some [786432] ∧
    narrows false [181, 181, 181, 0, 181, 181, 181] 0x01003438 3 1 = some [0] ∧
    narrows false [-1, -1, 0, 0, 1, 1] 0x01003238 3 1 = some [-2] := by decide +kernel

/-- W15, W16. -/
theorem test_cross :
    narrows false [65536, 0, 0, 0, 0, 65536, 0] 0x01008439 8 3 = some [0, 0, 65536] ∧
    narrows false [65536, 131072, 196608, 0, 262144, 327680, 393216] 0x01008439 8 3 = some [-196608, 393216, -196608] := by decide +kernel

/-- W19, W21 to W23. -/
theorem test_lensqr :
    narrows false [11796480, 11796480] 0x0000323A 3 1 = some [-48234496] ∧
    narrows false [181, 181, 181] 0x0000343A 3 1 = some [1] ∧
    narrows false [65536, 131072, 131072, 262144] 0x0000363A 3 1 = some [1638400] ∧
    narrows false [-2147483648, -2147483648, -2147483648, -2147483648] 0x0000363A 3 1 = some [0] := by decide +kernel

/-- W24 to W27. -/
theorem test_lensqrw :
    value false [0x30000, 0x40000] 0x0000323B 3 = some 0x1900000000 ∧
    value false [0xB40000, 0xB40000] 0x0000323B 3 = some 0xFD2000000000 ∧
    value false [1, 1] 0x0000323B 3 = some 2 ∧
    value false [0x80000000, 0x80000000, 0x80000000, 0x80000000] 0x0000363B 3 = some 0 := by decide +kernel

/-- W28, W29, W31, W34. -/
theorem test_lengthPrecise :
    narrows false [196608, 262144] 0x000033BC 3 1 = some [327680] ∧
    narrows false [65536, 131072, 131072] 0x000035BC 3 1 = some [196608] ∧
    narrows false [13107200, 13107200] 0x000033BC 3 1 = some [7881776] ∧
    wides false [12884901888, 17179869184] 0x000033FC 3 1 = some [21474836480] := by decide +kernel

/-- W32. -/
theorem test_lengthPrecise_strict :
    faults true [11796480, 11796480] 0x000033BC 0x02 0xFFFFFFFFFD200000 = true := by decide +kernel

/-- 44_vector.md R308 at (3.0, 4.0); W33, W32. -/
theorem test_length :
    value false [0x30000, 0x40000] 0x0000323C 3 = some (result .q16 (cfgSqrtPos Config.defaultBuild .q16 .base 0x190000)) ∧
    narrows true [0, 0] 0x0000323C 3 1 = some [0] ∧
    faults true [11796480, 11796480] 0x0000323C 0x02 0xFFFFFFFFFD200000 = true := ⟨by rfl, by decide +kernel, by decide +kernel⟩

/-- 44_vector.md R308 at (3.0, 4.0); W33, W32. -/
theorem test_lengthFast :
    value false [0x30000, 0x40000] 0x000032BC 3 = some (result .q16 (cfgSqrtPos Config.defaultBuild .q16 .fast 0x190000)) ∧
    narrows true [0, 0] 0x000032BC 3 1 = some [0] ∧
    faults true [11796480, 11796480] 0x000032BC 0x02 0xFFFFFFFFFD200000 = true := ⟨by rfl, by decide +kernel, by decide +kernel⟩

/-- 44_vector.md R308 at (3.0, 4.0); W33, W32. -/
theorem test_lengthFastest :
    value false [0x30000, 0x40000] 0x0000333C 3 = some (result .q16 (cfgSqrtPos Config.defaultBuild .q16 .fastest 0x190000)) ∧
    narrows true [0, 0] 0x0000333C 3 1 = some [0] ∧
    faults true [11796480, 11796480] 0x0000333C 0x02 0xFFFFFFFFFD200000 = true := ⟨by rfl, by decide +kernel, by decide +kernel⟩

/-- W37, W35, W36. -/
theorem test_norm :
    (run false [0x30000, 0x40000] 0x0000823D).map (fun t => (t.readReg 8, t.readReg 9)) =
      some (result .q16 (mulW Config.defaultBuild .q16 0x30000 (cfgRsqrtPos Config.defaultBuild .q16 .base 0x190000)),
        result .q16 (mulW Config.defaultBuild .q16 0x40000 (cfgRsqrtPos Config.defaultBuild .q16 .base 0x190000))) ∧
    narrows false [0, 0] 0x0000823D 8 2 = some [0, 0] ∧
    faults true [0, 0] 0x0000823D 0x02 0 = true := ⟨by rfl, by decide +kernel, by decide +kernel⟩

/-- W37, W35, W36. -/
theorem test_normFast :
    (run false [0x30000, 0x40000] 0x000082BD).map (fun t => (t.readReg 8, t.readReg 9)) =
      some (result .q16 (mulW Config.defaultBuild .q16 0x30000 (cfgRsqrtPos Config.defaultBuild .q16 .fast 0x190000)),
        result .q16 (mulW Config.defaultBuild .q16 0x40000 (cfgRsqrtPos Config.defaultBuild .q16 .fast 0x190000))) ∧
    narrows false [0, 0] 0x000082BD 8 2 = some [0, 0] ∧
    faults true [0, 0] 0x000082BD 0x02 0 = true := ⟨by rfl, by decide +kernel, by decide +kernel⟩

/-- W37, W35, W36. -/
theorem test_normFastest :
    (run false [0x30000, 0x40000] 0x0000833D).map (fun t => (t.readReg 8, t.readReg 9)) =
      some (result .q16 (mulW Config.defaultBuild .q16 0x30000 (cfgRsqrtPos Config.defaultBuild .q16 .fastest 0x190000)),
        result .q16 (mulW Config.defaultBuild .q16 0x40000 (cfgRsqrtPos Config.defaultBuild .q16 .fastest 0x190000))) ∧
    narrows false [0, 0] 0x0000833D 8 2 = some [0, 0] ∧
    faults true [0, 0] 0x0000833D 0x02 0 = true := ⟨by rfl, by decide +kernel, by decide +kernel⟩

/-- W38, W40, W39; and the zero vector with a maximum below 0 (44_vector.md R317). -/
theorem test_clamplen :
    narrows true [0, 0, 0, 0, 0] 0x0100823E 8 2 = some [0, 0] ∧
    narrows false [11796480, 11796480, 0, 0, 65536] 0x0100823E 8 2 = some [11796480, 11796480] ∧
    faults true [11796480, 11796480, 0, 0, 65536] 0x0100823E 0x02 0xFFFFFFFFFD200000 = true ∧
    faults true [0, 0, 0, 0, -1] 0x0100823E 0x02 0 = true := by decide +kernel

/-- W38, W40, W39; and the zero vector with a maximum below 0 (44_vector.md R317). -/
theorem test_clamplenFast :
    narrows true [0, 0, 0, 0, 0] 0x010082BE 8 2 = some [0, 0] ∧
    narrows false [11796480, 11796480, 0, 0, 65536] 0x010082BE 8 2 = some [11796480, 11796480] ∧
    faults true [11796480, 11796480, 0, 0, 65536] 0x010082BE 0x02 0xFFFFFFFFFD200000 = true ∧
    faults true [0, 0, 0, 0, -1] 0x010082BE 0x02 0 = true := by decide +kernel

/-- W38, W40, W39; and the zero vector with a maximum below 0 (44_vector.md R317). -/
theorem test_clamplenFastest :
    narrows true [0, 0, 0, 0, 0] 0x0100833E 8 2 = some [0, 0] ∧
    narrows false [11796480, 11796480, 0, 0, 65536] 0x0100833E 8 2 = some [11796480, 11796480] ∧
    faults true [11796480, 11796480, 0, 0, 65536] 0x0100833E 0x02 0xFFFFFFFFFD200000 = true ∧
    faults true [0, 0, 0, 0, -1] 0x0100833E 0x02 0 = true := by decide +kernel

/-! ## The window and the fault-held state (vectors H, X, programs P3) -/

/-- H1 to H5. -/
theorem test_window_reads :
    (serve (unitWith true []) [r 0x000, r 0x004, r 0x010, r 0x028, r 0x0FC, r 0x200, r 0x3FC]).map (fun t => t.reads) = some [0, 0, 0, 0, 0, 0x01202001, 0x46585501] ∧
    (serve (unitWith false []) [w 0x000 0xFFFFFFFF, r 0x000, r 0x004]).map (fun t => t.reads) = some [0x01202000, 0x46585501] := by decide +kernel

/-- H6, and 20_memory.md R63. -/
theorem test_window_registers :
    (serve (unitWith false []) [w 0x118 0x89ABCDEF, w 0x11C 0x01234567, r 0x118, r 0x11C]).map (fun t => (t.reads, t.readReg 3)) = some ([0x01234567, 0x89ABCDEF], 0x0123456789ABCDEF) ∧
    windowByte (unitWith false [0x0123456789ABCDEF]) 0x100 = 0xEF ∧
    windowByte (unitWith false [0x0123456789ABCDEF]) 0x106 = 0x23 := by decide +kernel

/-- H7, H8. -/
theorem test_ctrl :
    (serve (unitWith false []) [w 0x100 5, w 0x00C 0xFFFFFFFF, r 0x00C, r 0x100]).map (fun t => t.reads) = some [0, 0] ∧
    (serve (unitWith false []) [w 0x00C 1, r 0x00C]).map (fun t => (t.reads, t.irq)) = some ([1], false) := by decide +kernel

/-- H10; the last is the model's (assumption log 9). -/
theorem test_refused_accesses :
    step { State.reset with pending := [.access (.read 0x100 1)] } matches .refused .accessSize ∧
    step { State.reset with pending := [.access (.write 0x100 8 0)] } matches .refused .accessSize ∧
    step { State.reset with pending := [.access (.read 0x102 4)] } matches .refused .misaligned ∧
    step { State.reset with pending := [.access (.read 0x400 4)] } matches .fault .outsideWindow := by decide +kernel

/-- P5, command 5: a reserved OP; NEG with VL = 3, S = 1 and RS2 in use. -/
theorem test_illegal_word :
    faults false [1, 2, 3] 0x0000D00F 0x01 0 = true ∧
    faults true [1, 2, 3] 0x07D54E55 0x01 0 = true := by decide +kernel

/-- X1, X2. -/
theorem test_discard :
    (serve (unitWith true []) [w 0x010 0x0000003F, w 0x010 0x00424010]).map (fun t => (t.status, t.cmdcnt, t.faultCmd)) = some (3, 0, 0x3F) ∧
    (serve (unitWith true []) [w 0x010 0x0000003F, w 0x010 0x00424010, w 0x008 2]).map (fun t => t.status) = some 1 := by decide +kernel

/-- X3. -/
theorem test_fault_clear :
    (serve (unitWith true []) [w 0x00C 1, w 0x010 0x0000003F, w 0x010 0, w 0x00C 2]).map (fun t => (t.status, t.ctrl, t.faultCmd, t.faultInfo)) = some (0, 0, 0x3F, 1) := by decide +kernel

/-- X4, X5; P3, step 8. -/
theorem test_irq :
    (serve (unitWith true []) [w 0x00C 1, w 0x010 0x0000003F]).map (fun t => t.irq) = some true ∧
    (serve (unitWith true []) [w 0x010 0x0000003F, w 0x00C 1]).map (fun t => t.irq) = some true ∧
    (serve (unitWith true []) [w 0x00C 1, w 0x010 0x0000003F, w 0x00C 3]).map (fun t => (t.irq, t.irqEn)) = some (false, true) := by decide +kernel

/-- X7. -/
theorem test_cmdcnt_wraps :
    (nextOf (step ({ State.reset with cmdcnt := 0xFFFFFFFF }.withCommand 0))).map (fun t => t.cmdcnt) = some 0 := by decide +kernel

/-- 70_reset_and_hazards.md R380, R383. -/
theorem test_reset_input :
    (serve (unitWith true []) [w 0x100 5, w 0x010 0x0000003F, w 0x00C 1, .resetInput]).map (fun t => (t.readReg 0, t.status, t.ctrl, t.faultCmd, t.irq, t.build.strict)) = some (0, 0, 0, 0, false, true) ∧
    (serve (unitWith false []) [w 0x010 0, .resetDuring (.write 0x100 4 7)]).map (fun t => (t.readReg 0, t.cmdcnt)) = some (0, 0) := by decide +kernel

theorem test_withFetchWord :
    (nextOf (step (State.reset.withFetchWord 32 0x00085002))).map (fun t => t.readReg 5) = some 0x3243F := by decide +kernel

/-! ## Witnesses: states and operands that meet the hypotheses of the obligations -/

/-- s with these events as the host's sequence. -/
def queue (s : State) (es : List HostEvent) : State := { s with pending := es }

/-- s with its next access taken off the host's sequence and counted. -/
def taken (s : State) : State := { s with pending := s.pending.tail, cmdidx := s.cmdidx + 1 }

/-- A unit that holds the fault of the reserved word 0x3F, with IRQ_EN set. -/
def held : State := { State.reset with status := 1, ctrl := 1, faultCmd := 0x3F, faultInfo := 1 }

/-- The state a step leads to. -/
def after (s : State) : State := (nextOf (step s)).getD s

/-- The state a command leads to. -/
def ran (i : Instr) (s : State) : State := (nextOf (exec i s)).getD s

theorem of_next {o : Host.Outcome State Fault Refusal} {s : State} (h : (nextOf o).isSome = true) :
    o = .next ((nextOf o).getD s) := by
  cases o <;> first | rfl | cases h

theorem step_after {s : State} (h : (nextOf (step s)).isSome = true) : step s = .next (after s) := of_next h

theorem exec_ran {i : Instr} {s : State} (h : (nextOf (exec i s)).isSome = true) : exec i s = .next (ran i s) := of_next h

/-- A witness for a hypothesis about the next state of a step. -/
theorem leads {o : Host.Outcome State Fault Refusal} {p : State → Prop} [DecidablePred p]
    (h : (nextOf o).any (fun t => decide (p t)) = true) : ∃ t, o = .next t ∧ p t := by
  cases o with
  | next t => exact ⟨t, rfl, by simpa [nextOf] using h⟩
  | fault f => cases h
  | refused f => cases h

theorem witness_DecodeOfEncode :
    (Instr.mov .q16 .x4 28 28).wellFormed = true ∧ (Instr.const .q32 31 15).wellFormed = true := by decide +kernel

theorem witness_EncodeOfDecode :
    decode 0x0101C610 = .ok (.add .q16 .x4 false 28 0 4) ∧ legal 0x0101E610 = false := by decide +kernel

theorem witness_ReservedOpcodesFault :
    ∃ s s' : State, (unpack 0xFFFFFFFF).op.toNat = 0x3F ∧ (unpack 0x0000D00F).op.toNat = 0x0F ∧
      NextAccess s (.write 0x010 4 0xFFFFFFFF) s' ∧ s.faultHeld = false := 
  ⟨queue State.reset [w 0x010 0xFFFFFFFF], taken (queue State.reset [w 0x010 0xFFFFFFFF]), by decide, by decide, ⟨[], rfl, rfl⟩,
    by decide⟩

theorem witness_ConstIndexRange :
    16 ≤ (16 : RegNum).toNat ∧ 16 ≤ (31 : RegNum).toNat ∧ (14 : RegNum) = 14 ∧ (15 : RegNum) = 15 := by decide

theorem witness_StepRunsDecoded :
    ∃ s s' : State, NextAccess s (.write 0x010 4 0x00823010) s' ∧ s.faultHeld = false ∧
      decode 0x00823010 = .ok (.add .q16 .x1 false 3 1 2) := 
  ⟨queue State.reset [w 0x010 0x00823010], taken (queue State.reset [w 0x010 0x00823010]), ⟨[], rfl, rfl⟩, by decide,
    by decide +kernel⟩

theorem witness_IllegalWordsFault :
    ∃ s s' : State, legal 0x00001000 = false ∧ NextAccess s (.write 0x010 4 0x00001000) s' ∧ s.faultHeld = false := 
  ⟨queue State.reset [w 0x010 0x00001000], taken (queue State.reset [w 0x010 0x00001000]), by decide +kernel, ⟨[], rfl, rfl⟩,
    by decide⟩

theorem witness_FaultHeldDiscards :
    ∃ s s' : State, NextAccess s (.write 0x010 4 0) s' ∧ s.faultHeld = true := 
  ⟨queue held [w 0x010 0], taken (queue held [w 0x010 0]), ⟨[], rfl, rfl⟩, by decide⟩

theorem witness_WaysOutOfFaultHeld :
    held.faultHeld = true ∧
      ∀ e ∈ [w 0x00C 2, w 0x00C 4, w 0x00C 7, .resetInput, .resetDuring (.write 0x010 4 0)],
        ∃ t, step (queue held [e]) = .next t ∧ t.faultHeld = false := by
  refine ⟨by decide, fun e he => ?_⟩
  simp only [List.mem_cons, List.not_mem_nil, or_false] at he
  rcases he with rfl | rfl | rfl | rfl | rfl <;> exact leads (by decide +kernel)

theorem witness_WaysOutOfFaultHeld_clear :
    ∃ s s' : State, NextAccess s (.write 0x00C 4 3) s' ∧ (3 : Word32).getLsbD 1 = true ∧ (3 : Word32).getLsbD 2 = false := 
  ⟨queue held [w 0x00C 3], taken (queue held [w 0x00C 3]), ⟨[], rfl, rfl⟩, by decide, by decide⟩

theorem witness_OtherAccessesRefused :
    ∃ s u : State, (s.pending = .access (.read 0x100 1) :: [] ∧ (1 : Nat) ≠ 4) ∧
      (u.pending = .access (.write 0x102 4 0) :: [] ∧ 0x102 % 4 ≠ 0) := 
  ⟨queue State.reset [.access (.read 0x100 1)], queue State.reset [w 0x102 0], ⟨rfl, by decide⟩, ⟨rfl, by decide⟩⟩

theorem witness_EveryAdmittedEventCompletes :
    State.reset.pending = [] ∧ (queue State.reset [r 0x3FC]).pending = .access (.read 0x3FC 4) :: [] ∧ 0x3FC < 0x400 ∧
      (queue State.reset [w 0x000 1]).pending = .access (.write 0x000 4 1) :: [] ∧
      (queue State.reset [.resetInput]).pending = .resetInput :: [] ∧
      (queue State.reset [.resetDuring (.read 0 4)]).pending = .resetDuring (.read 0 4) :: [] ∧
      (queue State.reset [r 0x400]).pending = .access (.read 0x400 4) :: [] ∧ 0x400 % 4 = 0 := 
  ⟨rfl, rfl, by decide, rfl, rfl, rfl, rfl, by decide⟩

theorem witness_SequenceAdvances :
    ∃ t, step (queue State.reset [r 0x000, w 0x100 7]) = .next t ∧ t.pending = [w 0x100 7] := leads (by decide +kernel)

theorem witness_StatusRegisterAccess :
    ∃ s s' : State, NextAccess s (.read 0x014 4) s' ∧ 0x014 ∈ [0x000, 0x004, 0x014, 0x018, 0x01C, 0x020, 0x024] := 
  ⟨queue State.reset [r 0x014], taken (queue State.reset [r 0x014]), ⟨[], rfl, rfl⟩, by decide⟩

theorem witness_RegisterHalves :
    ∃ s s' u u' : State, NextAccess s (.write (0x100 + 8 * (31 : RegNum).toNat) 4 5) s' ∧
      NextAccess u (.write (0x104 + 8 * (0 : RegNum).toNat) 4 5) u' := 
  ⟨queue State.reset [w 0x1F8 5], taken (queue State.reset [w 0x1F8 5]), queue State.reset [w 0x104 5],
    taken (queue State.reset [w 0x104 5]), ⟨[], rfl, rfl⟩, ⟨[], rfl, rfl⟩⟩

theorem witness_UnmappedOffsets :
    ∀ off ∈ [0x028, 0x0FC, 0x200, 0x3FC],
      off % 4 = 0 ∧ ((0x028 ≤ off ∧ off ≤ 0x0FC) ∨ (0x200 ≤ off ∧ off ≤ 0x3FC)) := by decide

theorem witness_StatusAndCtrlWrites :
    ∃ s s' u u' : State, NextAccess s (.write 0x008 4 2) s' ∧ (2 : Word32).getLsbD 1 = true ∧ (1 : Word32).getLsbD 1 = false ∧
      NextAccess u (.write 0x00C 4 4) u' ∧ (4 : Word32).getLsbD 2 = true ∧ (3 : Word32).getLsbD 2 = false := 
  ⟨queue held [w 0x008 2], taken (queue held [w 0x008 2]), queue held [w 0x00C 4], taken (queue held [w 0x00C 4]),
    ⟨[], rfl, rfl⟩, by decide, by decide, ⟨[], rfl, rfl⟩, by decide, by decide⟩

theorem witness_ResetFromEveryState :
    (queue held [.resetInput]).pending = .resetInput :: [] ∧
      (queue held [.resetDuring (.write 0x010 4 0)]).pending = .resetDuring (.write 0x010 4 0) :: [] ∧
      (4 : Word32).getLsbD 2 = true ∧ (queue held [w 0x00C 4]).pending = .access (.write 0x00C 4 4) :: [] := 
  ⟨rfl, rfl, by decide, rfl⟩

theorem witness_BuildNeverChanges :
    ∃ t, step (queue held [r 0x004]) = .next t ∧ (queue held [r 0x004]).pending = .access (.read 0x004 4) :: [] := 
  leads (by decide +kernel)

/-- A fault of an illegal word and one of a domain error; IRQ_EN written 1; each event after which irq is low. -/
theorem witness_IrqChanges :
    (∃ t, step (queue { State.reset with ctrl := 1 } [w 0x010 0x3F]) = .next t ∧ t.faultHeld = true ∧ t.irq = true) ∧
      (∃ t, step (queue { unitWith true [] with ctrl := 1 } [w 0x010 0x00022021]) = .next t ∧ t.faultHeld = true ∧
        t.irq = true) ∧
      (∃ t, step (queue { held with ctrl := 0 } [w 0x00C 1]) = .next t ∧ t.irq = true) ∧
      State.irq { State.reset with ctrl := 1 } = false ∧ State.irq { held with ctrl := 0 } = false ∧ held.irq = true ∧
      ∀ e ∈ [w 0x00C 3, w 0x00C 4, w 0x00C 0, .resetInput, .resetDuring (.read 0 4)],
        ∃ t, step (queue held [e]) = .next t ∧ t.irq = false := by
  refine ⟨leads (by decide +kernel), leads (by decide +kernel), leads (by decide +kernel), by decide, by decide, by decide,
    fun e he => ?_⟩
  simp only [List.mem_cons, List.not_mem_nil, or_false] at he
  rcases he with rfl | rfl | rfl | rfl | rfl <;> exact leads (by decide +kernel)

theorem witness_ResetNext :
    ResetNext (queue held [.resetInput]) ∧ ResetNext (queue held [.resetDuring (.write 0x010 4 0)]) ∧
      ResetNext (queue held [w 0x00C 4]) ∧ ¬ ResetNext (queue held [w 0x00C 3]) := by
  refine ⟨⟨[], .inl rfl⟩, ⟨[], .inr (.inl ⟨_, rfl⟩)⟩, ⟨[], .inr (.inr ⟨4, by decide, rfl⟩)⟩, ?_⟩
  rintro ⟨rest, h | ⟨a, h⟩ | ⟨v, hv, h⟩⟩ <;> cases h
  revert hv
  decide

theorem witness_CaptureInvariantKept :
    CaptureInv held ∧ CaptureInv (unitWith true []) ∧ step held = .next (after held) ∧
      step (queue (unitWith true []) [w 0x010 0x00022021]) = .next (after (queue (unitWith true []) [w 0x010 0x00022021])) := 
  ⟨⟨by decide, by decide, by decide, .inr (.inl ⟨by decide, by decide +kernel, by decide⟩)⟩,
    ⟨by decide, by decide, by decide, .inl ⟨by decide, by decide, by decide, by decide⟩⟩, step_after (by decide +kernel),
    step_after (by decide +kernel)⟩

theorem witness_CaptureInvariantKept_domain :
    CaptureInv { unitWith true [] with status := 1, faultCmd := 0x00022021, faultInfo := 0x12 } := 
  ⟨by decide, by decide, by decide,
    .inr (.inr ⟨by decide, by decide +kernel, 1, 0, by decide, by decide +kernel, by decide +kernel⟩)⟩

theorem witness_CommandFrame :
    (Instr.mov .q16 .x4 28 0).wellFormed = true ∧
      exec (.mov .q16 .x4 28 0) (unitWith true []) = .next (ran (.mov .q16 .x4 28 0) (unitWith true [])) ∧
      ∃ t, exec (.rsqrt .q16 2 1) (unitWith true []) = .next t ∧ t.faultHeld = true := 
  ⟨by decide, exec_ran (by decide +kernel), leads (by decide +kernel)⟩

theorem witness_ReleaseNeverFaults :
    (Instr.rsqrt .q16 2 1).wellFormed = true ∧ (unitWith false []).build.strict = false := by decide

theorem witness_CmdcntCounts :
    (∃ t, step (queue State.reset [w 0x010 0]) = .next t ∧ t.cmdcnt = 1) ∧
      (∃ t, step (queue held [w 0x010 0]) = .next t ∧ t.faultHeld = true) ∧
      (∃ t, step (queue { held with cmdcnt := 9 } [r 0x014]) = .next t ∧ t.cmdcnt = 9) ∧
      ∀ e ∈ [w 0x00C 4, .resetInput, .resetDuring (.write 0x010 4 0)],
        ∃ t, step (queue { held with cmdcnt := 9 } [e]) = .next t ∧ t.cmdcnt = 0 := by
  refine ⟨leads (by decide +kernel), leads (by decide +kernel), leads (by decide +kernel), fun e he => ?_⟩
  simp only [List.mem_cons, List.not_mem_nil, or_false] at he
  rcases he with rfl | rfl | rfl <;> exact leads (by decide +kernel)

theorem witness_CommandsAreDeterministic :
    ∃ s u : State, s.build = u.build ∧ s.draws = u.draws ∧ (∀ r, s.readReg r = u.readReg r) ∧ s ≠ u ∧
      exec (.fromf .q16 2 1) s = .next (ran (.fromf .q16 2 1) s) ∧ exec (.fromf .q16 2 1) u = .next (ran (.fromf .q16 2 1) u) ∧
      ∃ p, exec (.rsqrt .q16 2 1) s = .next p ∧ p.cmdcnt = s.cmdcnt := 
  ⟨unitWith true [], { unitWith true [] with cmdcnt := 9 }, rfl, rfl, fun _ => rfl, by decide +kernel, exec_ran (by decide +kernel),
    exec_ran (by decide +kernel), leads (by decide +kernel)⟩

theorem witness_HighWordsDoNotMatter :
    ∃ s u : State, (Instr.add .q16 .x1 false 3 1 2).wellFormed = true ∧ (Instr.add .q16 .x1 false 3 1 2).fields.w = 0 ∧
      (Instr.add .q16 .x1 false 3 1 2).fields.op ≠ 0x04 ∧ (Instr.add .q16 .x1 false 3 1 2).fields.op ≠ 0x0A ∧
      s.build = u.build ∧ s.draws = u.draws ∧
      (∀ r, (s.readReg r).extractLsb' 0 32 = (u.readReg r).extractLsb' 0 32) ∧ s ≠ u ∧
      exec (.add .q16 .x1 false 3 1 2) s = .next (ran (.add .q16 .x1 false 3 1 2) s) ∧
      exec (.add .q16 .x1 false 3 1 2) u = .next (ran (.add .q16 .x1 false 3 1 2) u) ∧
      ∃ p, exec (.divPrecise .q16 .x1 false 3 1 2) s = .next p ∧ p.cmdcnt = s.cmdcnt := 
  ⟨unitWith true [0, 5], unitWith true [0, 0x700000005], by decide, by decide, by decide, by decide, rfl, rfl, by decide +kernel,
    by decide +kernel, exec_ran (by decide +kernel), exec_ran (by decide +kernel), leads (by decide +kernel)⟩

/-- Component 3 of a group of 4 from R0, and the scalar command on R3. -/
theorem witness_ComponentsAreScalarCommands :
    ∀ i ∈ [Instr.mov .q16 .x4 8 0, .mov .q16 .x1 8 3, .widen .x4 8 0, .widen .x1 8 3, .narrow .x4 8 0, .narrow .x1 8 3,
        .add .q16 .x4 false 8 0 4, .add .q16 .x1 false 8 3 7, .sub .q16 .x4 true 8 0 4, .sub .q16 .x1 false 8 3 4,
        .mul .q16 .x4 true 8 0 4, .mul .q16 .x1 false 8 3 4, .div .q16 .x4 true 8 0 4, .div .q16 .x1 false 8 3 4,
        .divFast .q16 .x4 true 8 0 4, .divFast .q16 .x1 false 8 3 4, .divFastest .q16 .x4 true 8 0 4,
        .divFastest .q16 .x1 false 8 3 4, .divPrecise .q16 .x4 true 8 0 4, .divPrecise .q16 .x1 false 8 3 4,
        .mod .q16 .x4 true 8 0 4, .mod .q16 .x1 false 8 3 4, .clamp .q16 .x4 true 8 0 4 5,
        .clamp .q16 .x1 false 8 3 4 5, .lerp .q16 .x4 8 0 4 12, .lerp .q16 .x1 8 3 7 12],
      i.wellFormed = true ∧
        ((nextOf (exec i (unitWith true (List.replicate 8 2)))).any fun t => decide (t.cmdcnt = State.reset.cmdcnt + 1)) = true := by decide +kernel

theorem witness_MoveResults :
    (Instr.mov .q16 .x4 28 28).wellFormed = true ∧ (15 : RegNum).toNat < 16 ∧ (Instr.widen .x4 28 0).wellFormed = true ∧
      (Instr.narrow .x4 0 28).wellFormed = true := by decide

/-- The greatest operands whose bias does not wrap. -/
theorem witness_CeilAndRoundAreNearest :
    opnd .q16 (unitWith false [0, 0x7FFF0000]) 1 + 2 ^ 16 - 1 = maxRaw .q16 ∧
      opnd .q16 (unitWith false [0, 0x7FFF7FFF]) 1 + 2 ^ 15 = maxRaw .q16 ∧
      exec (.ceil .q16 2 1) (unitWith false [0, 0x7FFF0000]) = .next (ran (.ceil .q16 2 1) (unitWith false [0, 0x7FFF0000])) ∧
      exec (.round .q16 2 1) (unitWith false [0, 0x7FFF7FFF]) = .next (ran (.round .q16 2 1) (unitWith false [0, 0x7FFF7FFF])) := 
  ⟨by decide +kernel, by decide +kernel, exec_ran (by decide +kernel), exec_ran (by decide +kernel)⟩

theorem witness_FromFloatInRange :
    inRaw .q16 (truncRat (32767 * 2 ^ fracBits Config.defaultBuild .q16)) = true ∧
      binaryValue 8 23 (((unitWith false [0, 0x46FFFE00]).readReg 1).extractLsb' 0 32).toNat = some 32767 ∧
      inRaw .q32 (truncRat (-2147483648 * 2 ^ fracBits Config.defaultBuild .q32)) = true ∧
      binaryValue 11 52 ((unitWith false [0, 0xC1E0000000000000]).readReg 1).toNat = some (-2147483648) := by decide +kernel

/-- 32768.0 as a binary32, and a binary64 NaN. -/
theorem witness_FromFloatOutOfRange :
    (∀ q, binaryValue 8 23 (((unitWith false [0, 0x47000000]).readReg 1).extractLsb' 0 32).toNat = some q →
        inRaw .q16 (truncRat (q * 2 ^ fracBits Config.defaultBuild .q16)) = false) ∧
      binaryValue 11 52 ((unitWith false [0, 0x7FF8000000000000]).readReg 1).toNat = none := by
  refine ⟨fun q h => ?_, by decide +kernel⟩
  have e : binaryValue 8 23 (((unitWith false [0, 0x47000000]).readReg 1).extractLsb' 0 32).toNat = some 32768 := by decide +kernel
  rw [e] at h
  cases h
  decide +kernel

theorem witness_ToFloatResults :
    (opnd .q32 (unitWith false [0, 0xFFFFFF]) 1).natAbs < 2 ^ 24 ∧
      (opnd .q32 (unitWith false [0, 0xFFE0000000000001]) 1).natAbs < 2 ^ 53 := by decide +kernel

/-- -32768.0, the least float of the range. -/
theorem witness_FloatRoundTrip :
    ∃ (s t u : State) (v : Rat), binaryValue 8 23 ((s.readReg 1).extractLsb' 0 32).toNat = some v ∧ -2 ^ 15 ≤ v ∧
      v < 2 ^ 15 ∧ 2 ^ 8 ≤ |v| ∧ exec (.fromf .q16 2 1) s = .next t ∧ exec (.tof .q16 3 2) t = .next u := 
  ⟨unitWith false [0, 0xC7000000], ran (.fromf .q16 2 1) (unitWith false [0, 0xC7000000]),
    ran (.tof .q16 3 2) (ran (.fromf .q16 2 1) (unitWith false [0, 0xC7000000])), -32768, by decide +kernel, by norm_num,
    by norm_num, by norm_num [abs_of_neg], exec_ran (by decide +kernel), exec_ran (by decide +kernel)⟩

/-- 2^8, and the greatest float below 2^15. -/
theorem witness_FloatRoundTrip_least_exact :
    binaryValue 8 23 ((unitWith false [0, 0x43800000]).readReg 1 |>.extractLsb' 0 32).toNat = some 256 ∧
      binaryValue 8 23 ((unitWith false [0, 0x46FFFFFF]).readReg 1 |>.extractLsb' 0 32).toNat = some (16777215 / 512) := by decide +kernel

theorem witness_ConstantRom :
    ({ Config.defaultBuild with frac64 := .f16 } : Build).frac64 = .f16 ∧ romEntry { Config.defaultBuild with frac64 := .f16 } .q32 4 = 205887 := by decide +kernel

theorem witness_AddSubMulResults :
    (Instr.add .q16 .x4 true 28 28 31).wellFormed = true ∧ (Instr.sub .q32 .x4 false 28 28 28).wellFormed = true ∧
      (Instr.mul .q16 .x1 false 31 31 31).wellFormed = true := by decide

/-- Every component of these denominators, 1 raw, is inside the domain. -/
theorem denominators : ∀ i < VLen.x4.count, opnd .q16 (unitWith true (List.replicate 8 1)) (bcomp false 4 i) ≠ 0 ∧
    opnd .q16 (unitWith true (List.replicate 8 1)) (bcomp false 4 i) ≠ minRaw .q16 := by decide +kernel

theorem witness_ExactQuotientResults :
    (Instr.divPrecise .q16 .x4 false 28 0 4).wellFormed = true ∧ (Instr.mod .q16 .x4 false 28 0 4).wellFormed = true ∧
      (∀ i < VLen.x4.count, opnd .q16 (unitWith true (List.replicate 8 1)) (bcomp false 4 i) ≠ 0) ∧
      opnd .q16 (unitWith true (List.replicate 8 1)) 4 ≠ 0 ∧ (unitWith false []).build.strict = false := 
  ⟨by decide, by decide, fun i h => (denominators i h).1, (denominators 0 (by decide)).1, by decide⟩

theorem witness_DivTierResults :
    (divOf .base .q16 .x4 false 28 0 4).wellFormed = true ∧ (divOf .fast .q16 .x4 true 28 0 31).wellFormed = true ∧
      (divOf .fastest .q16 .x1 false 31 31 31).wellFormed = true := by decide +kernel

/-- MIN / 1.0, a quotient at the end of the range. -/
theorem witness_DivPreciseWithinOneUlp :
    let s := unitWith false [0, 0x80000000, 0x00010000]
    opnd .q16 s 2 ≠ 0 ∧ opnd .q16 s 2 ≠ minRaw .q16 ∧
      inRaw .q16 (truncDiv (shl (opnd .q16 s 1) (fracBits s.build .q16)) (opnd .q16 s 2)) = true ∧
      (nextOf (exec (.divPrecise .q16 .x1 false 3 1 2) s)).isSome = true := by decide +kernel

theorem witness_SqrtPreciseResult :
    0 ≤ opnd .q16 (unitWith true [0, 0]) 1 ∧ 0 ≤ opnd .q32 (unitWith true [0, 0x7FFFFFFFFFFFFFFF]) 1 := by decide +kernel

theorem witness_RootTierResults :
    0 ≤ opnd .q16 (unitWith true [0, 0]) 1 ∧ 0 < opnd .q16 (unitWith true [0, 1]) 1 ∧
      opnd .q16 (unitWith true [0, 0x80000001]) 1 ≠ 0 ∧ opnd .q16 (unitWith true [0, 0x80000001]) 1 ≠ minRaw .q16 := by decide +kernel

theorem witness_SqrtPreciseLaws :
    ∃ s u t q : State, s.build = u.build ∧ 0 ≤ opnd .q16 s 1 ∧ opnd .q16 s 1 ≤ opnd .q16 u 1 ∧
      exec (.sqrtPrecise .q16 2 1) s = .next (ran (.sqrtPrecise .q16 2 1) s) ∧
      exec (.sqrtPrecise .q16 2 1) u = .next (ran (.sqrtPrecise .q16 2 1) u) ∧
      |opnd .q16 u 1| = 11863283 ∧ |opnd .q16 u 4| = 2 ^ 16 ∧
      exec (.mul .q16 .x1 false 3 1 1) u = .next t ∧ exec (.sqrtPrecise .q16 2 3) t = .next q := 
  ⟨unitWith true [0, 0], unitWith true [0, 11863283, 0, 0, 0xFFFF0000],
    ran (.mul .q16 .x1 false 3 1 1) (unitWith true [0, 11863283, 0, 0, 0xFFFF0000]),
    ran (.sqrtPrecise .q16 2 3) (ran (.mul .q16 .x1 false 3 1 1) (unitWith true [0, 11863283, 0, 0, 0xFFFF0000])), by decide,
    by decide +kernel, by decide +kernel, exec_ran (by decide +kernel), exec_ran (by decide +kernel), by decide +kernel,
    by decide +kernel, exec_ran (by decide +kernel), exec_ran (by decide +kernel)⟩

theorem witness_ExponentialResults :
    0 < opnd .q16 (unitWith true [0, 1]) 1 ∧ (unitWith false []).build.strict = false := by decide +kernel

theorem witness_ArcResults :
    |opnd .q32 (unitWith true [0, 0xFFFFFFFF00000000]) 1| ≤ 2 ^ fracBits Config.defaultBuild .q32 ∧
      |opnd .q16 (unitWith true [0, 0x10000]) 1| ≤ 2 ^ 16 := by decide +kernel

theorem witness_SineLaws :
    ∃ s u v : State, u.build = s.build ∧ v.build = s.build ∧
      opnd .q16 u 1 = wrap 32 (opnd .q16 s 1 + romEntry s.build .q16 5) ∧ opnd .q16 s 1 ≠ minRaw .q16 ∧
      opnd .q16 v 1 = -opnd .q16 s 1 ∧ exec (cosOf .base .q16 2 1) s = .next (ran (cosOf .base .q16 2 1) s) ∧
      exec (sinOf .base .q16 2 1) s = .next (ran (sinOf .base .q16 2 1) s) ∧
      exec (sinOf .base .q16 2 1) u = .next (ran (sinOf .base .q16 2 1) u) ∧
      exec (sinOf .base .q16 2 1) v = .next (ran (sinOf .base .q16 2 1) v) := 
  ⟨unitWith true [0, 0x7FFFFFFF], unitWith true [0, 0x8001921F], unitWith true [0, 0x80000001], rfl, rfl, by decide +kernel,
    by decide +kernel, by decide +kernel, exec_ran (by decide +kernel), exec_ran (by decide +kernel), exec_ran (by decide +kernel),
    exec_ran (by decide +kernel)⟩

theorem witness_SineLaws_zero :
    opnd .q16 (unitWith true []) 1 = 0 ∧ opnd .q16 (unitWith true []) 1 = -opnd .q16 (unitWith true []) 1 := by decide +kernel

/-- Each clause takes two of these three registers. -/
theorem witness_Atan2OnAxes :
    let s := unitWith true [0, 0x10000, 0xFFFF0000]
    opnd .q16 s 0 = 0 ∧ opnd .q16 s 1 = 2 ^ fracBits s.build .q16 ∧ opnd .q16 s 2 = -2 ^ fracBits s.build .q16 := by decide +kernel

theorem witness_ClampLerpResults :
    (Instr.clamp .q16 .x4 true 28 28 31 31).wellFormed = true ∧ (Instr.lerp .q32 .x4 28 28 28 31).wellFormed = true := by decide

theorem witness_ProductResults :
    (Instr.dot .q16 .x4 31 28 28).wellFormed = true ∧ (Instr.cross .q32 29 29 29).wellFormed = true ∧
      (Instr.lensqr .q16 .x2 31 30).wellFormed = true ∧ (Instr.lensqrw .x4 31 28).wellFormed = true := by decide

theorem witness_LengthResults :
    squaredLength .q16 (unitWith true []) 0 2 = 0 ∧ squaredLength .q16 (unitWith false [0xB40000, 0xB40000]) 0 2 < 0 ∧
      (lengthTierOf .fastest .q16 .x2 31 30).wellFormed = true ∧ (Instr.lengthPrecise .q16 .x4 31 28).wellFormed = true := by decide +kernel

theorem witness_NormClampLenResults :
    0 < squaredLength .q16 (unitWith true [0x100]) 0 2 ∧ squaredLength .q16 (unitWith true []) 0 2 = 0 ∧
      0 ≤ opnd .q16 (unitWith true []) 4 ∧ (normOf .base .q16 .x4 28 28).wellFormed = true ∧
      (clamplenOf .fast .q16 .x4 28 28 31).wellFormed = true := by decide +kernel

theorem witness_CrossSelfAndLerpEnds :
    let s := unitWith true [1, 2, 3, 0, 0x10000]
    (Instr.cross .q16 29 0 0).wellFormed = true ∧ (Instr.lerp .q16 .x4 28 0 0 3).wellFormed = true ∧ opnd .q16 s 3 = 0 ∧
      opnd .q16 s 4 = 2 ^ fracBits s.build .q16 ∧ (nextOf (exec (.cross .q16 29 0 0) s)).isSome = true ∧
      (nextOf (exec (.lerp .q16 .x4 28 0 0 3) s)).isSome = true ∧ (nextOf (exec (.lerp .q16 .x4 28 0 0 4) s)).isSome = true := by decide +kernel

/-- The greatest single component whose square is in range. -/
theorem witness_DotBoundsLensqr :
    let s := unitWith true [0xB504F3, 0]
    (Instr.lensqr .q16 .x2 31 0).wellFormed = true ∧
      asr (((List.range VLen.x2.count).map fun i => opnd .q16 s (comp 0 i) ^ 2).sum) (fracBits s.build .q16) ≤ maxRaw .q16 ∧
      (nextOf (exec (.dot .q16 .x2 31 0 0) s)).isSome = true ∧ (nextOf (exec (.lensqr .q16 .x2 31 0) s)).isSome = true := by decide +kernel

theorem witness_DivisionTraps :
    let s := unitWith true ([1, 1, 1, 1, 1, 1, 1, 0x80000000, 1, 1, 1, 0] : List Word64)
    s.build.strict = true ∧ 3 < VLen.x4.count ∧ (divOf .base .q16 .x4 false 12 0 4).wellFormed = true ∧
      (divOf .base .q16 .x4 false 12 0 8).wellFormed = true ∧ opnd .q16 s (bcomp false 4 3) = minRaw .q16 ∧
      (∀ k < 3, opnd .q16 s (bcomp false 4 k) ≠ 0 ∧ opnd .q16 s (bcomp false 4 k) ≠ minRaw .q16) ∧
      opnd .q16 s (bcomp false 8 3) = 0 ∧ (∀ k < 3, opnd .q16 s (bcomp false 8 k) ≠ 0) := by decide +kernel

theorem witness_ScalarDomainTraps :
    let s := unitWith true [0, 0xFFFFFFFF, 0x80000000, 0x10001, 0xFFFEFFFF]
    s.build.strict = true ∧ opnd .q16 s 0 = 0 ∧ opnd .q16 s 1 = -1 ∧ opnd .q16 s 2 = minRaw .q16 ∧
      2 ^ fracBits s.build .q16 < |opnd .q16 s 3| ∧ 2 ^ fracBits s.build .q16 < |opnd .q16 s 4| := by decide +kernel

theorem witness_LengthDomainTraps :
    let s := unitWith true [0xB40000, 0xB40000, 0, 0, 0xFFFFFFFF]
    s.build.strict = true ∧ squaredLength .q16 s 0 2 < 0 ∧ squaredLength .q16 s 2 2 = 0 ∧ opnd .q16 s 4 < 0 ∧
      (lengthTierOf .base .q16 .x2 8 0).wellFormed = true ∧ (normOf .fast .q16 .x2 8 2).wellFormed = true ∧
      (clamplenOf .fastest .q16 .x2 8 2 4).wellFormed = true := by decide +kernel

theorem witness_PseudoInstructionEffects :
    (Pseudo.sub1 .q16 3 1 3).wellFormed = true ∧ (Pseudo.vneg .q16 .x4 4 0).wellFormed = true ∧
      (Pseudo.qconj 28 0).wellFormed = true ∧ (Pseudo.qconj 1 0).wellFormed = true ∧
      (nextOf (execAll (Pseudo.qconj 28 0).expand State.reset)).isSome = true ∧
      (nextOf (execAll (Pseudo.qconj 1 0).expand State.reset)).isSome = true ∧
      (nextOf (execAll (Pseudo.sub1 .q16 3 1 3).expand State.reset)).isSome = true ∧
      (nextOf (execAll (Pseudo.vneg .q16 .x4 4 0).expand State.reset)).isSome = true := by decide +kernel

end Sys2Proof.Tests
end

section
/-! PROOFS for 00_scope.md. A command is a function of its inputs: in two states with the same registers, build and
draw counter it runs `runCommand` on one computation (R20), and `runCommand` passes the computation's outcome on
without looking at the rest of the state (60_exceptions.md R345). -/

namespace Sys2Proof.Machine

/-- Two states give a command the same inputs: the build, the draw counter and R0 to R31 (00_scope.md R20;
assumption log 6). -/
structure SameInputs (s u : State) : Prop where
  build : s.build = u.build
  draws : s.draws = u.draws
  readReg : ∀ r, s.readReg r = u.readReg r

/-- The registers R0 to R31 are the whole register file. -/
theorem regs_eq_of_readReg {s u : State} (h : ∀ r, s.readReg r = u.readReg r) : s.regs = u.regs := by
  apply Vector.ext
  intro k hk
  have hread := h (BitVec.ofNat 5 k)
  simpa [State.readReg, Nat.mod_eq_of_lt hk] using hread

/-- `u` with the inputs of `s` in the place of its own. -/
def State.withInputs (u s : State) : State := { u with regs := s.regs, build := s.build, draws := s.draws }

/-- Where the inputs agree, putting one state's into the other changes nothing. -/
theorem SameInputs.eq_withInputs {s u : State} (h : SameInputs s u) : u = u.withInputs s := by
  rw [State.withInputs, regs_eq_of_readReg h.readReg, h.build, h.draws]

/-- `s0` is the state in which a command issued in `s` runs: `s` itself or, for a float conversion, `s` with one draw
taken (40_conversion.md R140; assumption log 6). -/
def UpToDraw (s s0 : State) : Prop := s0 = s ∨ s0 = s.takeDraw

theorem UpToDraw.regs {s s0 : State} (h : UpToDraw s s0) : s0.regs = s.regs := by
  rcases h with rfl | rfl <;> rfl

theorem UpToDraw.cmdcnt {s s0 : State} (h : UpToDraw s s0) : s0.cmdcnt = s.cmdcnt := by
  rcases h with rfl | rfl <;> rfl

/-- In two states with the same inputs a command runs `runCommand` on one and the same computation `r`. Every meaning
reads the registers, the build and the draw counter only, so its computation in `u.withInputs s` is by definition that
in `s`; FROMF and FROMD may take a draw before they run. -/
theorem exec_same_computation (i : Instr) {s u : State} (h : SameInputs s u) :
    ∃ r s0 u0, exec i s = runCommand i (destination i).1 r s0 ∧ exec i u = runCommand i (destination i).1 r u0 ∧
      UpToDraw s s0 ∧ UpToDraw u u0 := by
  rw [h.eq_withInputs]
  unfold exec
  cases i with
  | fromf w rd rs1 =>
    exact ⟨_, _, (u.withInputs s).forConversion w (floatOperand w s rs1), rfl, rfl, forConversion_cases ..,
      forConversion_cases ..⟩
  | fromd w rd rs1 =>
    exact ⟨_, _, (u.withInputs s).forConversion w (doubleOperand w s rs1), rfl, rfl, forConversion_cases ..,
      forConversion_cases ..⟩
  | _ => exact ⟨_, _, _, rfl, rfl, .inl rfl, .inl rfl⟩

/-- A term that is no legal command takes IllegalCommand, whatever its computation (60_exceptions.md R341). -/
theorem runCommand_illegal (i : Instr) (rd : RegNum) (r : Except DomainError (List Word64)) (s : State)
    (h : i.wellFormed = false) :
    runCommand i rd r s = .next (s.enterFault (encode i) .illegalCommand 0 0 0) := by simp [runCommand, h]

/-- `p` from `s` and `q` from `u` are the same effect: the same registers, the same change of CMDCNT and, where the
command was not counted, the same fault. -/
def SameEffect (s u p q : State) : Prop :=
  (∀ r, p.readReg r = q.readReg r) ∧ p.cmdcnt - s.cmdcnt = q.cmdcnt - u.cmdcnt ∧
    (p.cmdcnt = s.cmdcnt → p.faultInfo = q.faultInfo ∧ p.faultVal = q.faultVal ∧ p.faultCmd = q.faultCmd)

/-- One fault, entered in two states with the same registers, is one effect (60_exceptions.md R345). -/
theorem sameEffect_enterFault {s u : State} (hr : s.regs = u.regs) (c : Word32) (k : Cause) (arg cmp : BitVec 2)
    (val : Int) : SameEffect s u (s.enterFault c k arg cmp val) (u.enterFault c k arg cmp val) := by
  refine ⟨fun q => ?_, by simp, fun _ => ⟨rfl, rfl, rfl⟩⟩
  simp [State.readReg, hr]

/-- The same results, written in two states with the same registers, are one effect; a counted command has no fault
to compare, because CMDCNT moves even where it wraps (44_vector.md R300; 10_state.md R46). -/
theorem sameEffect_complete {s u : State} (hr : s.regs = u.regs) (rd : RegNum) (vs : List Word64) :
    SameEffect s u (s.writeGroup rd vs).countCommand (u.writeGroup rd vs).countCommand := by
  refine ⟨fun q => ?_, ?_, fun hcount => absurd hcount ?_⟩
  · simp [State.readReg, hr]
  · simp only [countCommand_cmdcnt, writeGroup_cmdcnt]
    bv_omega
  · simp only [countCommand_cmdcnt, writeGroup_cmdcnt]
    bv_omega

/-- Running one computation in two states with the same registers is one effect (60_exceptions.md R345). -/
theorem sameEffect_runCommand {i : Instr} {rd : RegNum} {r : Except DomainError (List Word64)} {s u p q : State}
    (hr : s.regs = u.regs) (hp : runCommand i rd r s = .next p) (hq : runCommand i rd r u = .next q) :
    SameEffect s u p q := by
  cases hw : i.wellFormed with
  | false =>
    rw [runCommand_illegal _ _ _ _ hw] at hp hq
    cases hp; cases hq
    exact sameEffect_enterFault hr ..
  | true =>
    cases r with
    | error e =>
      rw [runCommand_error _ _ _ _ hw] at hp hq
      cases hp; cases hq
      exact sameEffect_enterFault hr ..
    | ok vs =>
      rw [runCommand_ok _ _ _ _ hw] at hp hq
      cases hp; cases hq
      exact sameEffect_complete hr ..

/-- A command has one effect in two states that give it the same inputs (00_scope.md R20). -/
theorem sameEffect_exec {i : Instr} {s u p q : State} (h : SameInputs s u) (hp : exec i s = .next p)
    (hq : exec i u = .next q) : SameEffect s u p q := by
  obtain ⟨r, s0, u0, hs, hu, hs0, hu0⟩ := exec_same_computation i h
  have hregs : s0.regs = u0.regs := by rw [hs0.regs, hu0.regs, regs_eq_of_readReg h.readReg]
  have heffect := sameEffect_runCommand hregs (hs ▸ hp) (hu ▸ hq)
  simpa only [SameEffect, hs0.cmdcnt, hu0.cmdcnt] using heffect

/-- Settles O26: a command runs one computation in both states, and `runCommand` turns it into one effect. -/
theorem commandsAreDeterministic : Obligations.CommandsAreDeterministic :=
  fun _ _ _ _ _ hbuild hdraws hread hp hq => sameEffect_exec ⟨hbuild, hdraws, hread⟩ hp hq

end Sys2Proof.Machine
end

section
/-! PROOFS for 10_state.md. The words that decode are the legal ones; a command takes a fault or completes, and either
way keeps CTRL, the build and the port; a step is one of the cases of StepCase, and each invariant and frame of the
state is read off them. -/

namespace Sys2Proof

/-! ## The decoder and the legality test -/

/-- The conditions that a row of the table puts on the other fields of its words (30_encoding.md R99). -/
def rowAdmits (r : Row) (f : Fields) : Bool :=
  r.fams.contains f.w && r.tiers.contains f.tier && r.vls.contains f.vl && broadcastAdmitted r f && unusedZero r f &&
    groupsInRange r f && indexInRange r f

theorem legal_of_row {c : Word32} {r : Row} (h : rowOf (unpack c).op = some r) : legal c = rowAdmits r (unpack c) := by
  simp only [legal, h, rowAdmits]

theorem legal_of_no_row {c : Word32} (h : rowOf (unpack c).op = none) : legal c = false := by simp only [legal, h]

theorem legal_encode_of_row {i : Instr} {r : Row} (h : rowOf i.fields.op = some r) :
    legal (encode i) = rowAdmits r i.fields := by
  rw [legal_of_row (by rwa [unpack_encode]), unpack_encode]

theorem use_beq (x y : Use) : (x == y) = decide (x = y) := rfl

@[simp] theorem family_code_admitted (w : Family) : (decide (w.code = 0#1) || decide (w.code = 1#1)) = true := by
  cases w <;> rfl

@[simp] theorem vlen_code_vector (vl : VLen) :
    (decide (vl.code = 1#2) || (decide (vl.code = 2#2) || decide (vl.code = 3#2))) = vectorLength vl := by
  cases vl <;> rfl

@[simp] theorem vlen_code_admitted (vl : VLen) : (decide (vl.code = 0#2) || vectorLength vl) = true := by
  cases vl <;> rfl

@[simp] theorem ofBool_beq_zero (sb : Bool) : (BitVec.ofBool sb == 0#1) = !sb := by cases sb <;> rfl

@[simp] theorem vlen_code_beq_zero (vl : VLen) : (vl.code == 0#2) = decide (vl = .x1) := by cases vl <;> rfl

@[simp] theorem fieldInRange_single (f : Fields) (r : RegNum) : fieldInRange false f r = true := rfl

@[simp] theorem fieldInRange_group (vl : VLen) (op : BitVec 6) (w s : BitVec 1) (tier : BitVec 2)
    (rd rs1 rs2 rs3 r : RegNum) :
    fieldInRange true ⟨op, w, tier, vl.code, s, rd, rs1, rs2, rs3⟩ r = groupFits vl r := by cases vl <;> rfl

/-- CROSS fixes its VL at 2 (30_encoding.md R98). -/
@[simp] theorem fieldInRange_cross (op : BitVec 6) (w s : BitVec 1) (tier : BitVec 2) (rd rs1 rs2 rs3 r : RegNum) :
    fieldInRange true ⟨op, w, tier, 2#2, s, rd, rs1, rs2, rs3⟩ r = groupFits .x3 r := rfl

theorem fieldInRange_broadcast (vl : VLen) (sb : Bool) (op : BitVec 6) (w s : BitVec 1) (tier : BitVec 2)
    (rd rs1 rs2 rs3 r : RegNum) :
    fieldInRange (!sb) ⟨op, w, tier, vl.code, s, rd, rs1, rs2, rs3⟩ r = (sb || groupFits vl r) := by
  cases sb <;> simp

/-- The words of the legal commands are the legal words: `legal` on the word and `wellFormed` on the term are one
condition (30_encoding.md R99). -/
theorem legal_encode (i : Instr) : legal (encode i) = i.wellFormed := by
  cases i with
  | const w rd k =>
    rw [legal_encode_of_row rfl]
    cases w <;> rfl
  | _ =>
    rw [legal_encode_of_row rfl]
    simp [rowAdmits, broadcastAdmitted, unusedZero, groupsInRange, indexInRange, Instr.fields, Instr.wellFormed,
      use_beq, bne, broadcastFits, fieldInRange_broadcast, Bool.and_assoc]

theorem rowOf_some {op : BitVec 6} {r : Row} (h : rowOf op = some r) : r ∈ rows ∧ r.op = op :=
  ⟨List.mem_of_find?_eq_some h, by simpa using List.find?_some h⟩

/-- A tier that a row admits has a command (30_encoding.md R98, R105). -/
theorem build_isSome {f : Fields} {r : Row} (hr : r ∈ rows) (hop : r.op = f.op) (ht : f.tier ∈ r.tiers) :
    ∃ i, build f = some i := by
  obtain ⟨op, w, tier, vl, s, rd, rs1, rs2, rs3⟩ := f
  simp only at hop ht
  subst hop
  fin_cases hr <;> fin_cases ht <;> exact ⟨_, rfl⟩

/-- The decoder answers only where the row admits the fields (30_encoding.md R99). -/
theorem rowAdmits_of_decodeFields {f : Fields} {r : Row} {i : Instr} (hrow : rowOf f.op = some r)
    (h : decodeFields f = .ok i) : rowAdmits r f = true := by
  simp only [decodeFields, hrow] at h
  split_ifs at h with hfam htier hvl hs hunused hgroup hindex
  simp only [Bool.not_eq_true', Bool.not_eq_false] at hfam htier hvl hs hunused hgroup hindex
  simp only [rowAdmits, hfam, htier, hvl, hs, hunused, hgroup, hindex, Bool.and_self]

/-- Where the row admits the fields, the decoder answers the command of their OP and TIER (30_encoding.md R99). -/
theorem decodeFields_of_rowAdmits {f : Fields} {r : Row} {i : Instr} (hrow : rowOf f.op = some r)
    (h : rowAdmits r f = true) (hbuild : build f = some i) : decodeFields f = .ok i := by
  simp only [rowAdmits, Bool.and_eq_true] at h
  obtain ⟨⟨⟨⟨⟨⟨hfam, htier⟩, hvl⟩, hs⟩, hunused⟩, hgroup⟩, hindex⟩ := h
  simp only [decodeFields, hrow, hfam, htier, hvl, hs, hunused, hgroup, hindex, hbuild, Bool.not_true, Bool.false_eq_true,
    if_false]

theorem tier_of_rowAdmits {f : Fields} {r : Row} (h : rowAdmits r f = true) : f.tier ∈ r.tiers := by
  simp only [rowAdmits, Bool.and_eq_true, List.contains_iff_mem] at h
  obtain ⟨⟨⟨⟨⟨⟨-, htier⟩, -⟩, -⟩, -⟩, -⟩, -⟩ := h
  exact htier

/-- The words that decode are the legal ones (30_encoding.md R99, R103). -/
theorem decode_ok_iff_legal (c : Word32) : (∃ i, decode c = .ok i) ↔ legal c = true := by
  cases hrow : rowOf (unpack c).op with
  | none => simp [decode, decodeFields, hrow, legal_of_no_row hrow]
  | some r =>
    rw [legal_of_row hrow]
    constructor
    · rintro ⟨i, h⟩
      exact rowAdmits_of_decodeFields hrow h
    · intro h
      obtain ⟨hmem, hop⟩ := rowOf_some hrow
      obtain ⟨i, hbuild⟩ := build_isSome hmem hop (tier_of_rowAdmits h)
      exact ⟨i, decodeFields_of_rowAdmits hrow h hbuild⟩

/-- A word that does not decode is illegal (60_exceptions.md R341). -/
theorem legal_of_decode_error {c : Word32} {d : DecodeError} (h : decode c = .error d) : legal c = false := by
  rw [← Bool.not_eq_true, ← decode_ok_iff_legal]
  rintro ⟨i, hi⟩
  rw [hi] at h
  cases h

end Sys2Proof

namespace Sys2Proof.Machine

/-! ## What a command can do -/

/-- What a command can do, whatever its term and its operands: take IllegalCommand, take DomainFault in a strict build
with what its row of 60_exceptions.md R342 reports, or complete (R345). -/
inductive ExecCase (i : Instr) (s t : State) : Prop
  /-- The term is no legal command. -/
  | illegal (hw : i.wellFormed = false) (e : t = s.enterFault (encode i) .illegalCommand 0 0 0)
  /-- A component is outside the domain, in a strict build. -/
  | domain (err : DomainError) (hw : i.wellFormed = true) (hstrict : s.build.strict = true)
      (harg : domainArg i.fields.op = some err.arg) (hcomp : err.comp.toNat ≤ i.fields.vl.toNat)
      (e : t = s.enterFault (encode i) .domainFault err.arg err.comp err.val)
  /-- The command completes with the results v in its destination. -/
  | done (v : Nat → Word64) (hw : i.wellFormed = true)
      (hdone : Completed s t (destination i).1 (destination i).2 v) (hdraws : drawsFloat i = false → t.draws = s.draws)

/-- A float conversion has no domain condition (60_exceptions.md R342). -/
theorem domainArg_of_drawsFloat {i : Instr} (h : drawsFloat i = true) : domainArg i.fields.op = none := by
  cases i with
  | fromf | fromd => rfl
  | _ => cases h

/-- A float conversion is a legal command whatever its registers (30_encoding.md R98). -/
theorem wellFormed_of_drawsFloat {i : Instr} (h : drawsFloat i = true) : i.wellFormed = true := by
  cases i with
  | fromf | fromd => rfl
  | _ => cases h

/-- No command writes more than four registers (30_encoding.md R94). -/
theorem destination_le (i : Instr) : (destination i).2 ≤ 4 := by
  have hvl := i.fields.vl.isLt
  unfold destination
  split
  · exact Nat.zero_le _
  · split
    · show i.fields.vl.toNat + 1 ≤ 4
      omega
    · exact Nat.le_add_left 1 3
    · exact Nat.zero_le _

theorem exec_cases {i : Instr} {s t : State} (h : exec i s = .next t) : ExecCase i s t := by
  obtain ⟨r, s0, hrun, hs, hsound⟩ := exec_runs i s
  rw [hrun] at h
  rcases runCommand_cases _ _ _ _ _ h with ⟨hw, rfl⟩ | ⟨hw, err, rfl, rfl⟩ | ⟨hw, vs, rfl, rfl⟩
  · rcases hs with rfl | ⟨hd, -⟩
    · exact .illegal hw rfl
    · rw [wellFormed_of_drawsFloat hd] at hw
      cases hw
  · obtain ⟨hstrict, harg, hcomp⟩ := hsound.error err rfl
    rcases hs with rfl | ⟨hd, -⟩
    · exact .domain err hw hstrict harg hcomp rfl
    · rw [domainArg_of_drawsFloat hd] at harg
      cases harg
  · have hlen := hsound.ok vs rfl
    have hle := destination_le i
    refine .done (fun k => vs.getD k 0) hw
      (completed_of_run s s0 _ _ _ vs (hs.imp_right And.right) (by omega) hlen fun k hk => ?_) fun hd => ?_
    · rw [List.getD_eq_getElem _ _ hk]
    · rcases hs with rfl | ⟨hd', -⟩
      · rfl
      · rw [hd] at hd'
        cases hd'

/-- Every command answers a next state: no meaning stops the machine (10_state.md R45). -/
theorem exec_next (i : Instr) (s : State) : ∃ t, exec i s = .next t := by
  obtain ⟨r, s0, hrun, -, -⟩ := exec_runs i s
  rw [hrun]
  unfold runCommand
  split
  · split <;> exact ⟨_, rfl⟩
  · exact ⟨_, rfl⟩

/-- No command touches CTRL, the build constants or the host's side of the port (10_state.md R34). -/
theorem keepsPort_of_exec {i : Instr} {s t : State} (h : exec i s = .next t) : KeepsPort s t := by
  cases exec_cases h with
  | illegal hw e => subst e; exact ⟨rfl, rfl, rfl, rfl, rfl⟩
  | domain err hw hstrict harg hcomp e => subst e; exact ⟨rfl, rfl, rfl, rfl, rfl⟩
  | done v hw hdone hdraws =>
    obtain ⟨-, -, -, hport⟩ := hdone
    exact hport

/-- Settles O23: the cases of a legal command. -/
theorem commandFrame : Obligations.CommandFrame := by
  intro i s t hw h
  refine ⟨keepsPort_of_exec h, ?_⟩
  cases exec_cases h with
  | illegal hw' => rw [hw] at hw'; cases hw'
  | domain err _ hstrict harg hcomp e =>
    subst e
    rw [unpack_encode]
    exact ⟨fun _ => rfl, .inr ⟨hstrict, err.arg, err.comp, err.val, harg, faulted_enterFault ..⟩⟩
  | done v _ hdone hdraws =>
    obtain ⟨⟨-, hothers⟩, hcount, hcapture, -⟩ := hdone
    exact ⟨hdraws, .inl ⟨hcount, hcapture, hothers⟩⟩

/-! ## Writes to STATUS and CTRL -/

/-- What a write to STATUS can do (10_state.md R43). -/
theorem writeStatus_cases (s : State) (v : Word32) :
    (v.getLsbD 1 = true ∧ s.writeStatus v = s.clearDiscard) ∨ (v.getLsbD 1 = false ∧ s.writeStatus v = s) := by
  unfold State.writeStatus
  cases v.getLsbD 1 <;> simp

/-- SOFT_RST resets, and nothing else of the write takes effect (10_state.md R44). -/
theorem writeCtrl_softRst (s : State) {v : Word32} (h : v.getLsbD 2 = true) : s.writeCtrl v = s.resetUnit := by
  rw [State.writeCtrl, if_pos h]

/-- What a write to CTRL without SOFT_RST can do (10_state.md R44). -/
theorem writeCtrl_cases (s : State) {v : Word32} (h : v.getLsbD 2 = false) :
    (v.getLsbD 1 = true ∧ s.writeCtrl v = State.clearFault { s with ctrl := v &&& 1 }) ∨
      (v.getLsbD 1 = false ∧ s.writeCtrl v = { s with ctrl := v &&& 1 }) := by
  rw [State.writeCtrl, h]
  cases v.getLsbD 1 <;> simp

/-! ## The condition on the status, control and capture registers -/

theorem or_and_eq_zero {x y m : Word32} (hx : x &&& m = 0) (hy : y &&& m = 0) : (x ||| y) &&& m = 0 := by
  rw [BitVec.and_or_distrib_right, hx, hy, BitVec.or_self]

theorem and_and_eq_zero {x m : Word32} (y : Word32) (hx : x &&& m = 0) : (x &&& y) &&& m = 0 := by
  rw [BitVec.and_assoc, BitVec.and_comm y, ← BitVec.and_assoc, hx]
  exact BitVec.zero_and

/-- The capture registers describe the most recent fault, or none: the last part of CaptureInv. -/
def Captured (s : State) : Prop := NoFaultYet s ∨ IllegalCaptured s ∨ DomainCaptured s

/-- The capture registers keep their values while FAULT is cleared or kept (60_exceptions.md R348, R352). -/
theorem Captured.of_same {s t : State} (h : Captured s) (hbuild : t.build = s.build) (hcmd : t.faultCmd = s.faultCmd)
    (hinfo : t.faultInfo = s.faultInfo) (hval : t.faultVal = s.faultVal)
    (hheld : s.faultHeld = false → t.faultHeld = false) : Captured t := by
  unfold Captured NoFaultYet IllegalCaptured DomainCaptured at h ⊢
  rw [hbuild, hcmd, hinfo, hval]
  exact h.imp_left fun ⟨h1, h2, h3, h4⟩ => ⟨h1, h2, h3, hheld h4⟩

/-- An illegal word is captured as IllegalCommand with the value 0 (60_exceptions.md R341). -/
theorem captured_illegal (s : State) {c : Word32} (h : legal c = false) :
    Captured (s.enterFault c .illegalCommand 0 0 0) := by
  obtain ⟨-, -, -, -, hcmd, hinfo, hval, -, -⟩ := faulted_enterFault s c .illegalCommand 0 0 0
  exact .inr (.inl ⟨hinfo, by rwa [hcmd], by rw [hval]; rfl⟩)

/-- A legal command outside its domain is captured as DomainFault (60_exceptions.md R342, R343). -/
theorem captured_domain {i : Instr} {s : State} {err : DomainError} (hw : i.wellFormed = true)
    (hstrict : s.build.strict = true) (harg : domainArg i.fields.op = some err.arg)
    (hcomp : err.comp.toNat ≤ i.fields.vl.toNat) :
    Captured (s.enterFault (encode i) .domainFault err.arg err.comp err.val) := by
  refine .inr (.inr ⟨hstrict, ?_, err.arg, err.comp, rfl, ?_⟩) <;> rw [enterFault_faultCmd]
  · rw [legal_encode, hw]
  · rw [unpack_encode]
    exact ⟨harg, hcomp⟩

/-- Fault entry sets FAULT only, so that the rest of the condition stays (60_exceptions.md R345). -/
theorem CaptureInv.enterFault {s : State} (h : CaptureInv s) {c : Word32} {k : Cause} {a p : BitVec 2} {v : Int}
    (hcapt : Captured (s.enterFault c k a p v)) : CaptureInv (s.enterFault c k a p v) := by
  obtain ⟨hstatus, hctrl, -, -⟩ := h
  refine ⟨or_and_eq_zero hstatus (by decide), hctrl, fun _ => ?_, hcapt⟩
  simp [State.faultHeld]

/-- A discarded word sets DISCARD, while FAULT is set (60_exceptions.md R347). -/
theorem CaptureInv.discardCommand {s : State} (h : CaptureInv s) (hf : s.faultHeld = true) :
    CaptureInv s.discardCommand := by
  obtain ⟨hstatus, hctrl, -, (hcapt : Captured s)⟩ := h
  have hheld : s.discardCommand.faultHeld = s.faultHeld := by simp [State.faultHeld]
  exact ⟨or_and_eq_zero hstatus (by decide), hctrl, fun _ => by rw [hheld, hf],
    hcapt.of_same rfl rfl rfl rfl (by rw [hheld]; exact id)⟩

theorem CaptureInv.clearFault {s : State} (h : CaptureInv s) : CaptureInv s.clearFault := by
  obtain ⟨hstatus, hctrl, -, (hcapt : Captured s)⟩ := h
  have hheld : s.clearFault.faultHeld = false := by simp [State.faultHeld]
  have hdiscard : s.clearFault.discard = false := by simp [State.discard]
  exact ⟨and_and_eq_zero _ hstatus, hctrl, by rw [hdiscard]; exact nofun,
    hcapt.of_same rfl rfl rfl rfl fun _ => hheld⟩

theorem CaptureInv.clearDiscard {s : State} (h : CaptureInv s) : CaptureInv s.clearDiscard := by
  obtain ⟨hstatus, hctrl, -, (hcapt : Captured s)⟩ := h
  have hheld : s.clearDiscard.faultHeld = s.faultHeld := by simp [State.faultHeld]
  have hdiscard : s.clearDiscard.discard = false := by simp [State.discard]
  exact ⟨and_and_eq_zero _ hstatus, hctrl, by rw [hdiscard]; exact nofun,
    hcapt.of_same rfl rfl rfl rfl (by rw [hheld]; exact id)⟩

/-- A write to CTRL keeps IRQ_EN of the word written and no other bit (10_state.md R44). -/
theorem CaptureInv.withCtrl {s : State} (h : CaptureInv s) (v : Word32) : CaptureInv { s with ctrl := v &&& 1 } := by
  obtain ⟨hstatus, -, hdiscard, (hcapt : Captured s)⟩ := h
  refine ⟨hstatus, ?_, hdiscard, hcapt⟩
  rw [BitVec.and_assoc]
  exact BitVec.and_zero

theorem captureInv_resetUnit (s : State) : CaptureInv s.resetUnit :=
  ⟨BitVec.zero_and, BitVec.zero_and, by simp [State.discard],
    .inl ⟨rfl, rfl, BitVec.zero_append_zero, by simp [State.faultHeld]⟩⟩

/-- Completion leaves the control, status and capture registers alone (10_state.md R34). -/
theorem CaptureInv.of_completed {s t : State} {rd : RegNum} {n : Nat} {v : Nat → Word64} (h : CaptureInv s)
    (hdone : Completed s t rd n v) : CaptureInv t := by
  obtain ⟨-, -, ⟨hstatus, hcmd, hinfo, hlo, hhi⟩, hctrl, hbuild, -⟩ := hdone
  obtain ⟨hres, hctrlres, hdiscard, (hcapt : Captured s)⟩ := h
  refine ⟨by rw [hstatus]; exact hres, by rw [hctrl]; exact hctrlres, ?_, hcapt.of_same hbuild hcmd hinfo ?_ ?_⟩
  · rwa [State.discard, State.faultHeld, hstatus]
  · rw [State.faultVal, State.faultVal, hlo, hhi]
  · rw [State.faultHeld, State.faultHeld, hstatus]
    exact id

theorem CaptureInv.exec {i : Instr} {s t : State} (h : CaptureInv s) (he : Machine.exec i s = .next t) :
    CaptureInv t := by
  cases exec_cases he with
  | illegal hw e => subst e; exact h.enterFault (captured_illegal s (by rw [legal_encode, hw]))
  | domain err hw hstrict harg hcomp e => subst e; exact h.enterFault (captured_domain hw hstrict harg hcomp)
  | done v hw hdone => exact h.of_completed hdone

theorem CaptureInv.windowWrite {s : State} (h : CaptureInv s) (off : Nat) (v : Word32) :
    CaptureInv (windowWrite s off v) := by
  rcases windowWrite_cases s off v with ⟨-, e⟩ | ⟨-, e⟩ | ⟨-, -, regs, e⟩ <;> rw [e]
  · rcases writeStatus_cases s v with ⟨-, e'⟩ | ⟨-, e'⟩ <;> rw [e']
    · exact h.clearDiscard
    · exact h
  · cases hrst : v.getLsbD 2 with
    | true => rw [writeCtrl_softRst s hrst]; exact captureInv_resetUnit s
    | false =>
      rcases writeCtrl_cases s hrst with ⟨-, e'⟩ | ⟨-, e'⟩ <;> rw [e']
      · exact (h.withCtrl v).clearFault
      · exact h.withCtrl v
  · exact h

/-- Settles O21: what each case of a step does to the state with the access taken off keeps the condition, and taking
it off changes no register. -/
theorem captureInvariantKept : Obligations.CaptureInvariantKept := by
  intro s t h hstep
  have hserved (rest : List HostEvent) : CaptureInv (s.served rest) := h
  cases step_cases s t hstep with
  | ended _ e => subst e; exact h
  | read off rest _ e => subst e; exact h
  | discarded c rest _ hf e => subst e; exact (hserved rest).discardCommand hf
  | illegal c rest d _ _ hd e => subst e; exact (hserved rest).enterFault (captured_illegal _ (legal_of_decode_error hd))
  | command c rest i _ _ _ e => exact (hserved rest).exec e
  | write off v rest _ _ e => subst e; exact (hserved rest).windowWrite off v
  | reset rest _ e => subst e; exact captureInv_resetUnit _
  | resetDuring a rest _ e => subst e; exact captureInv_resetUnit _

/-- Settles O22: after reset no fault is captured and none is held. -/
theorem captureInvariantAtReset : Obligations.CaptureInvariantAtReset := captureInv_resetUnit State.reset

/-! ## Serving one event -/

/-- An aligned 32-bit access inside the window is served (20_memory.md R60 to R62). -/
theorem admitted_inside {off : Nat} (halign : off % 4 = 0) (hin : off < 0x400) (k : Host.Outcome State Fault Refusal) :
    admitted off 4 k = k := by
  rw [admitted, if_neg (by decide), if_neg (by omega), if_neg (by unfold windowSize; omega)]

/-- An aligned 32-bit access past the window stops the machine (assumption log 9). -/
theorem admitted_outside {off : Nat} (halign : off % 4 = 0) (hout : 0x400 ≤ off)
    (k : Host.Outcome State Fault Refusal) : admitted off 4 k = .fault .outsideWindow := by
  rw [admitted, if_neg (by decide), if_neg (by omega), if_pos (show windowSize ≤ off from hout)]

/-- The step of a CMD write (10_state.md R45). -/
theorem step_writeCmd {s s' : State} {c : Word32} (h : NextAccess s (.write 0x010 4 c) s') : step s = writeCmd c s' := by
  rw [step_of_access s s' _ h, serveAccess, admitted_inside (by decide) (by decide)]
  rfl

/-- The step of a write of the window other than to CMD (20_memory.md R65). -/
theorem step_windowWrite {s s' : State} {off : Nat} {v : Word32} (h : NextAccess s (.write off 4 v) s')
    (halign : off % 4 = 0) (hin : off < 0x400) (hcmd : off ≠ 0x010) : step s = .next (windowWrite s' off v) := by
  rw [step_of_access s s' _ h, serveAccess, admitted_inside halign hin,
    if_neg (show off ≠ cmdOffset from hcmd)]

/-- A read of the window returns what the offset holds, without side effect (20_memory.md R65). -/
theorem readsAs_windowRead (s : State) {off : Nat} (halign : off % 4 = 0) (hin : off < 0x400) :
    ReadsAs s off (windowRead s off) := by
  intro s' h
  rw [step_of_access s s' _ h, serveAccess, admitted_inside halign hin]
  obtain ⟨rest, -, rfl⟩ := h
  rfl

/-- Where the window write changes nothing, the step has no effect (20_memory.md R65, R66). -/
theorem ignoresWrite_of_windowWrite (s : State) {off : Nat} {v : Word32} (halign : off % 4 = 0) (hin : off < 0x400)
    (hcmd : off ≠ 0x010) (h : ∀ s' : State, windowWrite s' off v = s') : IgnoresWrite s off v := by
  intro s' hnext
  rw [step_windowWrite hnext halign hin hcmd, h]

/-- A CMD write answers a next state whatever the word (60_exceptions.md R345). -/
theorem writeCmd_next (c : Word32) (s : State) : ∃ t, writeCmd c s = .next t := by
  unfold writeCmd
  split
  · exact ⟨_, rfl⟩
  · split
    · exact exec_next _ s
    · exact ⟨_, rfl⟩

/-- No write of the window touches the build constants or the host's side of the port (10_state.md R38, R40). -/
theorem windowWrite_keeps (s : State) (off : Nat) (v : Word32) :
    (windowWrite s off v).build = s.build ∧ (windowWrite s off v).pending = s.pending ∧
      (windowWrite s off v).cmdidx = s.cmdidx := by
  rcases windowWrite_cases s off v with ⟨-, e⟩ | ⟨-, e⟩ | ⟨-, -, regs, e⟩ <;> rw [e]
  · rcases writeStatus_cases s v with ⟨-, e'⟩ | ⟨-, e'⟩ <;> rw [e'] <;> exact ⟨rfl, rfl, rfl⟩
  · cases hrst : v.getLsbD 2 with
    | true => rw [writeCtrl_softRst s hrst]; exact ⟨rfl, rfl, rfl⟩
    | false => rcases writeCtrl_cases s hrst with ⟨-, e'⟩ | ⟨-, e'⟩ <;> rw [e'] <;> exact ⟨rfl, rfl, rfl⟩
  · exact ⟨rfl, rfl, rfl⟩

/-- A reset gives every register its reset value (10_state.md R52, 70_reset_and_hazards.md R380). -/
theorem resetValues_resetUnit (s : State) : ResetValues s.resetUnit :=
  ⟨fun r => by simp [State.readReg], rfl, rfl, rfl, rfl, rfl, rfl, rfl, resetUnit_irq s⟩

/-- The bits of CFG are its fields' (10_state.md R42). -/
theorem cfgWord_eq (b : Build) :
    cfgWord b = BitVec.ofNat 32 ((if b.strict then 1 else 0) + 2 ^ 8 * b.frac64.bits + 2 ^ 16 * 32 + 2 ^ 24) := by
  unfold cfgWord
  cases b.strict <;> cases b.frac64 <;> decide

/-- STRICT is bit 0 of CFG (10_state.md R40, R42). -/
theorem cfgWord_strict (b : Build) : (cfgWord b).getLsbD 0 = b.strict := by
  rw [cfgWord, BitVec.getLsbD_append]
  simp

/-- Settles O11: every command answers, `admitted` decides about an access, and a reset is taken as it comes. -/
theorem everyAdmittedEventCompletes : Obligations.EveryAdmittedEventCompletes := by
  refine ⟨exec_next, fun s h => ?_, fun s off v rest halign hin h => ?_, fun s rest a h => ?_,
    fun s off v rest halign hout h => ?_⟩
  · simp only [step, State.fetch, h]
  · rcases h with h | h <;> rw [step_of_pending s _ rest h, serveEvent, serveAccess, admitted_inside halign hin]
    · exact ⟨_, rfl⟩
    · split
      · exact writeCmd_next v _
      · exact ⟨_, rfl⟩
  · rcases h with h | h <;> exact ⟨_, step_of_pending s _ rest h⟩
  · rcases h with h | h <;> rw [step_of_pending s _ rest h, serveEvent, serveAccess, admitted_outside halign hout]

/-- Settles O6: taking the access off the sequence leaves FAULT alone, so that `writeCmd` decodes and executes. -/
theorem stepRunsDecoded : Obligations.StepRunsDecoded := by
  intro s s' c i h hf hd
  have hf' : s'.faultHeld = false := by
    obtain ⟨rest, -, rfl⟩ := h
    exact hf
  simp only [step_writeCmd h, writeCmd, hf', hd, Bool.false_eq_true, if_false]

/-- Settles O17: each of the three events leads to `resetUnit` of a state with the same build. -/
theorem resetFromEveryState : Obligations.ResetFromEveryState := by
  intro s rest h
  have hreset : ∃ u : State, step s = .next u.resetUnit ∧ u.build = s.build := by
    rcases h with h | ⟨a, h⟩ | ⟨v, hv, h⟩
    · exact ⟨_, step_of_pending s _ rest h, rfl⟩
    · exact ⟨_, step_of_pending s _ rest h, rfl⟩
    · refine ⟨s.served rest, ?_, rfl⟩
      rw [step_windowWrite ⟨rest, h, rfl⟩ (by decide) (by decide) (by decide)]
      exact congrArg _ (writeCtrl_softRst _ hv)
  obtain ⟨u, hstep, hbuild⟩ := hreset
  refine ⟨_, hstep, resetValues_resetUnit u, hbuild, rfl, ?_⟩
  show cfgWord u.build = cfgWord s.build
  rw [hbuild]

/-- No step changes the build (10_state.md R38, R40). -/
theorem step_build {s t : State} (h : step s = .next t) : t.build = s.build := by
  cases step_cases s t h with
  | ended _ e | read _ _ _ e | discarded _ _ _ _ e | illegal _ _ _ _ _ _ e | reset _ _ e | resetDuring _ _ _ e =>
    subst e; rfl
  | command c rest i _ _ _ e =>
    obtain ⟨-, hbuild, -⟩ := keepsPort_of_exec e
    exact hbuild
  | write off v rest _ _ e =>
    obtain ⟨hbuild, -, -⟩ := windowWrite_keeps (s.served rest) off v
    rw [e, hbuild]
    rfl

/-- Settles O19: the read of CFG returns `cfgWord` of the build, whose bit 0 is STRICT. -/
theorem buildNeverChanges : Obligations.BuildNeverChanges := by
  intro s t h
  refine ⟨step_build h, fun rest hp => ⟨cfgWord s.build, ?_, cfgWord_strict s.build⟩⟩
  have hreads : ReadsAs s 0x004 (cfgWord s.build) := readsAs_windowRead s (by decide) (by decide)
  have hread := hreads _ ⟨rest, hp, rfl⟩
  rw [h] at hread
  cases hread
  rfl

/-- Settles O12: each case of a step takes the head of the sequence, and counts it where it is an access. -/
theorem sequenceAdvances : Obligations.SequenceAdvances := by
  intro s t e rest hp h
  cases step_cases s t h with
  | ended hnil _ => rw [hnil] at hp; cases hp
  | read _ _ hp' et | discarded _ _ hp' _ et | illegal _ _ _ hp' _ _ et =>
    obtain ⟨rfl, rfl⟩ := List.cons.inj (hp'.symm.trans hp)
    subst et
    exact ⟨rfl, fun _ _ => rfl⟩
  | command c rest' i hp' _ _ et =>
    obtain ⟨rfl, rfl⟩ := List.cons.inj (hp'.symm.trans hp)
    obtain ⟨-, -, hpending, hcmdidx, -⟩ := keepsPort_of_exec et
    exact ⟨hpending, fun _ _ => hcmdidx⟩
  | write off v rest' hp' _ et =>
    obtain ⟨rfl, rfl⟩ := List.cons.inj (hp'.symm.trans hp)
    obtain ⟨-, hpending, hcmdidx⟩ := windowWrite_keeps (s.served rest') off v
    subst et
    exact ⟨hpending, fun _ _ => hcmdidx⟩
  | reset rest' hp' et | resetDuring a rest' hp' et =>
    obtain ⟨rfl, rfl⟩ := List.cons.inj (hp'.symm.trans hp)
    subst et
    exact ⟨rfl, nofun⟩

/-- Settles O13: each offset by what `windowRead` and `windowWrite` do there. -/
theorem statusRegisterAccess : Obligations.StatusRegisterAccess := by
  intro s
  have reads (off : Nat) (halign : off % 4 = 0) (hin : off < 0x400) : ReadsAs s off (windowRead s off) :=
    readsAs_windowRead s halign hin
  refine ⟨reads 0x000 (by decide) (by decide), ?_, reads 0x008 (by decide) (by decide),
    reads 0x00C (by decide) (by decide), reads 0x010 (by decide) (by decide), reads 0x014 (by decide) (by decide),
    reads 0x018 (by decide) (by decide), reads 0x01C (by decide) (by decide), reads 0x020 (by decide) (by decide),
    reads 0x024 (by decide) (by decide), fun off v hoff => ?_⟩
  · rw [← cfgWord_eq]
    exact reads 0x004 (by decide) (by decide)
  · simp only [List.mem_cons, List.not_mem_nil, or_false] at hoff
    rcases hoff with rfl | rfl | rfl | rfl | rfl | rfl | rfl <;>
      exact ignoresWrite_of_windowWrite s (by decide) (by decide) (by decide) fun _ => rfl

/-- Settles O18: the unit after reset is its own reset. -/
theorem resetState : Obligations.ResetState := ⟨resetValues_resetUnit State.reset, rfl, rfl⟩

/-- Half of ONE_W is an integer, because F(W) is above 0 (10_state.md R36, entry 2). -/
theorem two_mul_romEntry_half (b : Build) (w : Family) : 2 * romEntry b w 2 = romEntry b w 1 := by
  have hpos : 0 < fracBits b w := by
    cases w
    · exact Nat.succ_pos 15
    · cases hb : b.frac64 <;> simp [fracBits, hb, Frac64.bits]
  show 2 * (2 : Int) ^ (fracBits b w - 1) = 2 ^ fracBits b w
  rw [← pow_succ', Nat.sub_add_cancel hpos]

/-- Settles O30: by the definition of each entry; half of ONE_W is an integer because F(W) is above 0. -/
theorem constantRom : Obligations.ConstantRom := by
  refine ⟨fun b w => ⟨rfl, rfl, two_mul_romEntry_half b w, rfl, rfl, rfl, rfl, ?_, ?_⟩, by decide, by decide, ?_⟩
  · cases w <;> cases hb : b.frac64 <;> simp [romEntry, romParamOf, romParam, hb]
  · cases w <;> cases hb : b.frac64 <;> simp [romEntry, romParamOf, romParam, hb]
  · intro b hb k hk
    simp only [List.mem_cons, List.not_mem_nil, or_false] at hk
    rcases hk with rfl | rfl | rfl | rfl | rfl | rfl | rfl | rfl | rfl | rfl <;>
      simp [romEntry, romParamOf, oneRaw, fracBits, Frac64.bits, hb]

/-- A command that is executed is counted, with no fault held after it, or ends in the fault-held state
(10_state.md R46; 60_exceptions.md R345, R346). -/
theorem exec_counts {i : Instr} {s t : State} (h : exec i s = .next t) :
    (t.cmdcnt = s.cmdcnt + 1 ∧ t.faultHeld = s.faultHeld) ∨ (t.cmdcnt = s.cmdcnt ∧ t.faultHeld = true) := by
  cases exec_cases h with
  | illegal hw e => subst e; exact .inr ⟨rfl, by simp [State.faultHeld]⟩
  | domain err hw hstrict harg hcomp e => subst e; exact .inr ⟨rfl, by simp [State.faultHeld]⟩
  | done v hw hdone hdraws =>
    obtain ⟨-, hcount, ⟨hstatus, -⟩, -⟩ := hdone
    exact .inl ⟨hcount, by rw [State.faultHeld, State.faultHeld, hstatus]⟩

/-- Only a reset event or a CTRL write with SOFT_RST at the head of the sequence resets. -/
theorem resetNext_iff {s : State} {e : HostEvent} {rest : List HostEvent} (h : s.pending = e :: rest) :
    ResetNext s ↔ e = .resetInput ∨ (∃ a, e = .resetDuring a) ∨
      ∃ v : Word32, v.getLsbD 2 = true ∧ e = .access (.write 0x00C 4 v) := by
  constructor
  · rintro ⟨rest', h' | ⟨a, h'⟩ | ⟨v, hv, h'⟩⟩ <;> obtain ⟨rfl, -⟩ := List.cons.inj (h.symm.trans h')
    · exact .inl rfl
    · exact .inr (.inl ⟨a, rfl⟩)
    · exact .inr (.inr ⟨v, hv, rfl⟩)
  · rintro (rfl | ⟨a, rfl⟩ | ⟨v, hv, rfl⟩)
    · exact ⟨rest, .inl h⟩
    · exact ⟨rest, .inr (.inl ⟨a, h⟩)⟩
    · exact ⟨rest, .inr (.inr ⟨v, hv, h⟩)⟩

/-- Of the writes of the window only SOFT_RST touches CMDCNT (10_state.md R46). -/
theorem windowWrite_cmdcnt {s : State} {off : Nat} {v : Word32} (h : ¬ (off = 0x00C ∧ v.getLsbD 2 = true)) :
    (windowWrite s off v).cmdcnt = s.cmdcnt := by
  rcases windowWrite_cases s off v with ⟨-, e⟩ | ⟨hoff, e⟩ | ⟨-, -, regs, e⟩ <;> rw [e]
  · rcases writeStatus_cases s v with ⟨-, e'⟩ | ⟨-, e'⟩
    · rw [e', clearDiscard_cmdcnt]
    · rw [e']
  · have hrst : v.getLsbD 2 = false := Bool.eq_false_iff.mpr fun hv => h ⟨hoff, hv⟩
    rcases writeCtrl_cases s hrst with ⟨-, e'⟩ | ⟨-, e'⟩
    · rw [e', clearFault_cmdcnt]
    · rw [e']

/-- Settles O25: a command is counted or leaves a fault held, the reset events clear CMDCNT, and nothing else writes
it. -/
theorem cmdcntCounts : Obligations.CmdcntCounts := by
  intro s t h
  cases step_cases s t h with
  | ended hp e =>
    subst e
    exact .inr (.inl ⟨rfl, by simp [ResetNext, hp], by simp [hp]⟩)
  | read off rest hp e =>
    subst e
    exact .inr (.inl ⟨rfl, by simp [resetNext_iff hp], by simp [hp]⟩)
  | discarded c rest hp hf e =>
    have hheld : t.faultHeld = true := by rw [← hf, e]; simp [State.faultHeld, State.served]
    exact .inr (.inl ⟨by rw [e]; rfl, by simp [resetNext_iff hp], fun _ _ _ => hheld⟩)
  | illegal c rest d hp hf hd e =>
    have hheld : t.faultHeld = true := by rw [e]; simp [State.faultHeld]
    exact .inr (.inl ⟨by rw [e]; rfl, by simp [resetNext_iff hp], fun _ _ _ => hheld⟩)
  | command c rest i hp hf hd e =>
    rcases exec_counts e with ⟨hcount, hheld⟩ | ⟨hcount, hheld⟩
    · exact .inl ⟨hcount, hf, by rw [hheld]; exact hf, c, rest, (decode_ok_iff_legal c).mp ⟨i, hd⟩, hp⟩
    · exact .inr (.inl ⟨hcount, by simp [resetNext_iff hp], fun _ _ _ => hheld⟩)
  | write off v rest hp hcmd e =>
    by_cases hreset : off = 0x00C ∧ v.getLsbD 2 = true
    · obtain ⟨rfl, hv⟩ := hreset
      refine .inr (.inr ⟨?_, ⟨rest, .inr (.inr ⟨v, hv, hp⟩)⟩⟩)
      rw [e]
      exact congrArg State.cmdcnt (writeCtrl_softRst _ hv)
    · refine .inr (.inl ⟨by rw [e, windowWrite_cmdcnt hreset]; rfl, ?_, ?_⟩)
      · rw [resetNext_iff hp]
        rintro (h' | ⟨a, h'⟩ | ⟨v', hv', h'⟩) <;> cases h'
        exact hreset ⟨rfl, hv'⟩
      · simp [hp, hcmd]
  | reset rest hp e =>
    subst e
    exact .inr (.inr ⟨rfl, rest, .inl hp⟩)
  | resetDuring a rest hp e =>
    subst e
    exact .inr (.inr ⟨rfl, rest, .inr (.inl ⟨a, hp⟩)⟩)

/-- Writing 1 to DISCARD leaves every other bit of STATUS alone (10_state.md R43). -/
theorem clearDiscard_status_bit (s : State) {k : Nat} (hk : k ≠ 1) :
    s.clearDiscard.status.getLsbD k = s.status.getLsbD k := by
  have htwo : (2 : Word32) = BitVec.twoPow 32 1 := rfl
  by_cases hlt : k < 32
  · rw [clearDiscard_status, htwo]
    simp [hlt, hk]
  · rw [BitVec.getLsbD_of_ge _ _ (by omega), BitVec.getLsbD_of_ge _ _ (by omega)]

/-- CTRL has the bit 0 of the word written, and no other (10_state.md R44). -/
theorem and_one_bit (v : Word32) (k : Nat) : (v &&& 1).getLsbD k = (decide (k = 0) && v.getLsbD 0) := by
  have hone : (1 : Word32) = BitVec.twoPow 32 0 := rfl
  rw [hone]
  cases k <;> simp

/-- Settles O16: each register by its own write, bit by bit. -/
theorem statusAndCtrlWrites : Obligations.StatusAndCtrlWrites := by
  refine ⟨fun s s' v h => ?_, fun s s' v h => ?_⟩
  all_goals
    have hstatus : s'.status = s.status := by
      obtain ⟨rest, -, rfl⟩ := h
      rfl
  · have hstep : step s = .next (s'.writeStatus v) := step_windowWrite h (by decide) (by decide) (by decide)
    rcases writeStatus_cases s' v with ⟨hv, e⟩ | ⟨hv, e⟩ <;> rw [hv] <;> rw [e] at hstep
    · refine ⟨nofun, fun _ => ⟨_, hstep, rfl, by simp [State.discard], fun k hk => ?_⟩⟩
      rw [clearDiscard_status_bit s' hk, hstatus]
    · exact ⟨fun _ => hstep, nofun⟩
  · have hstep : step s = .next (s'.writeCtrl v) := step_windowWrite h (by decide) (by decide) (by decide)
    refine ⟨fun hrst => ?_, fun hrst => ?_⟩
    · rw [writeCtrl_softRst s' hrst] at hstep
      exact ⟨_, hstep, resetValues_resetUnit s'⟩
    · have hirq : (v &&& 1).getLsbD 0 = v.getLsbD 0 := and_one_bit v 0
      have hothers (k : Nat) (hk : 1 ≤ k) : (v &&& 1).getLsbD k = false := by
        rw [and_one_bit, decide_eq_false (by omega), Bool.false_and]
      rcases writeCtrl_cases s' hrst with ⟨hclr, e⟩ | ⟨hclr, e⟩ <;> rw [hclr] <;> rw [e] at hstep
      · exact ⟨_, hstep, hirq, hothers, rfl, nofun⟩
      · exact ⟨_, hstep, hirq, hothers, rfl, fun _ => hstatus⟩

/-! ## What a W = 0 command reads -/

/-- Two states give a W = 0 command the same inputs: the build, the draw counter and the low words of R0 to R31
(10_state.md R31). -/
structure SameLowInputs (s u : State) : Prop where
  build : s.build = u.build
  draws : s.draws = u.draws
  low : ∀ r, (s.readReg r).extractLsb' 0 32 = (u.readReg r).extractLsb' 0 32

/-- A family-32 operand is read from the low word (00_scope.md R12; 10_state.md R31). -/
theorem SameLowInputs.opnd {s u : State} (h : SameLowInputs s u) {w : Family} (hw : w.code = 0) (r : RegNum) :
    Machine.opnd w s r = Machine.opnd w u r := by
  obtain rfl : w = .q16 := by
    cases w with
    | q16 => rfl
    | q32 => cases hw
  simp only [Machine.opnd, Family.bits, BitVec.setWidth_eq_extractLsb' (show 32 ≤ 64 by decide), h.low]

theorem SameLowInputs.opnds {s u : State} (h : SameLowInputs s u) {w : Family} (hw : w.code = 0) (r : RegNum) (n : Nat) :
    Machine.opnds w s r n = Machine.opnds w u r n := by
  simp only [Machine.opnds, h.opnd hw]

/-- FROMF reads its binary32 from the low word (40_conversion.md R140). -/
theorem SameLowInputs.floatOperand {s u : State} (h : SameLowInputs s u) (w : Family) (r : RegNum) :
    Machine.floatOperand w s r = Machine.floatOperand w u r := by
  simp only [Machine.floatOperand, h.low, h.build]

theorem length_of_single {w : Family} {v : Except DomainError Int} {vs : List Word64} (h : single w v = .ok vs) :
    vs.length = 1 := by
  cases v with
  | error e => cases h
  | ok x => cases h; rfl

theorem length_of_componentwise {w : Family} {n : Nat} {f : Nat → Except DomainError Int} {vs : List Word64}
    (h : componentwise w n f = .ok vs) : vs.length = n := by
  unfold componentwise at h
  rcases componentsFrom_cases f n 0 with ⟨us, hok, hlen⟩ | ⟨j, e, -, -, -, herr⟩
  · rw [hok] at h
    cases h
    rw [List.length_map, hlen]
  · rw [herr] at h
    cases h

theorem length_of_groupResult {w : Family} {n : Nat} {v : Except DomainError (List Int)} {vs : List Word64}
    (hv : ∀ us, v = .ok us → us.length = n) (h : groupResult w v = .ok vs) : vs.length = n := by
  cases v with
  | error e => cases h
  | ok us =>
    cases h
    rw [List.length_map, hv us rfl]

/-- In both states the command runs `runCommand` on one computation, with as many results as its destination has
registers. -/
def RunsAlike (i : Instr) (s u : State) : Prop :=
  ∃ r s0 u0, exec i s = runCommand i (destination i).1 r s0 ∧ exec i u = runCommand i (destination i).1 r u0 ∧
    UpToDraw s s0 ∧ UpToDraw u u0 ∧ ∀ vs, r = .ok vs → vs.length = (destination i).2

/-- A command whose computation `c` takes the same value in both states. -/
theorem runsAlike_of_eq {i : Instr} {s u : State} (c : State → Except DomainError (List Word64))
    (hexec : ∀ x, exec i x = runCommand i (destination i).1 (c x) x) (hc : c s = c u)
    (hlen : ∀ vs, c s = .ok vs → vs.length = (destination i).2) : RunsAlike i s u :=
  ⟨c s, s, u, hexec s, hc ▸ hexec u, .inl rfl, .inl rfl, hlen⟩

/-- With W = 0 every command but WIDEN (W = 1 by its row), NARROW and FROMD computes from the low words: by the shape of
its computation, one result, one per component, or a group (10_state.md R31). -/
theorem runsAlike_of_low {i : Instr} {s u : State} (h : SameLowInputs s u) (hw : i.fields.w = 0)
    (hnarrow : i.fields.op ≠ 0x04) (hfromd : i.fields.op ≠ 0x0A) : RunsAlike i s u := by
  cases i with
  | widen => cases hw
  | narrow => exact absurd rfl hnarrow
  | fromd => exact absurd rfl hfromd
  | nop =>
    refine runsAlike_of_eq (fun _ => .ok []) (fun _ => rfl) rfl fun vs e => ?_
    cases e
    rfl
  | tof | tod =>
    refine runsAlike_of_eq _ (fun _ => by unfold exec; exact rfl) ?_ ?_
    · simp only [h.build, h.opnd hw]
    · rintro _ ⟨⟩
      rfl
  | fromf w rd rs1 =>
    refine ⟨_, _, u.forConversion w (floatOperand w u rs1), by unfold exec; exact rfl, ?_, forConversion_cases ..,
      forConversion_cases .., fun _ => length_of_single⟩
    rw [h.floatOperand, h.draws]
    rfl
  | const | fromint | floor | ceil | round | ratio | cmp | neg | abs | min | max | sqrt | sqrtFast | sqrtFastest
  | sqrtPrecise | rsqrt | rsqrtFast | rsqrtFastest | rcp | rcpFast | rcpFastest | exp2 | exp2Fast | exp2Fastest | log2
  | log2Fast | log2Fastest | exp | expFast | expFastest | log | logFast | logFastest | pow | powFast | powFastest | sin
  | sinFast | sinFastest | cos | cosFast | cosFastest | tan | tanFast | tanFastest | atan2 | atan2Fast | atan2Fastest
  | asin | asinFast | asinFastest | acos | acosFast | acosFastest =>
    refine runsAlike_of_eq _ (fun _ => by unfold exec; exact rfl) ?_ ?_
    · simp only [h.build, h.opnd hw]
    · exact fun _ => length_of_single
  | lensqrw =>
    refine runsAlike_of_eq _ (fun _ => by unfold exec; exact rfl) ?_ ?_
    · simp only [h.build, h.opnds (show Family.q16.code = 0 from rfl)]
    · exact fun _ => length_of_single
  | dot | lensqr | length | lengthFast | lengthFastest | lengthPrecise =>
    refine runsAlike_of_eq _ (fun _ => by unfold exec; exact rfl) ?_ ?_
    · simp only [h.build, h.opnds hw]
    · exact fun _ => length_of_single
  | mov _ vl | add _ vl | sub _ vl | mul _ vl | div _ vl | divFast _ vl | divFastest _ vl | divPrecise _ vl
  | mod _ vl | clamp _ vl | lerp _ vl =>
    refine runsAlike_of_eq _ (fun _ => by unfold exec; exact rfl) ?_ ?_
    · simp only [h.build, h.opnd hw]
    · exact fun _ e => (length_of_componentwise e).trans (vlen_count vl).symm
  | cross =>
    refine runsAlike_of_eq _ (fun _ => by unfold exec; exact rfl) ?_ ?_
    · simp only [h.build, h.opnd hw]
    · rintro _ ⟨⟩
      rfl
  | norm _ vl | normFast _ vl | normFastest _ vl =>
    refine runsAlike_of_eq _ (fun _ => by unfold exec; exact rfl) ?_ ?_
    · simp only [h.build, h.opnds hw]
    · refine fun _ => length_of_groupResult fun us e => ?_
      rw [length_normApprox _ _ _ _ us e, length_opnds]
      exact (vlen_count vl).symm
  | clamplen _ vl | clamplenFast _ vl | clamplenFastest _ vl =>
    refine runsAlike_of_eq _ (fun _ => by unfold exec; exact rfl) ?_ ?_
    · simp only [h.build, h.opnds hw, h.opnd hw]
    · refine fun _ => length_of_groupResult fun us e => ?_
      rw [length_clampLenApprox _ _ _ _ us _ e, length_opnds]
      exact (vlen_count vl).symm

/-- Settles O27: the command runs one computation in both states; its error is reported alike, and its results are what
the destination holds afterwards. -/
theorem highWordsDoNotMatter : Obligations.HighWordsDoNotMatter := by
  intro i s u p q hwf hw hnarrow hfromd hbuild hdraws hlow hp hq
  obtain ⟨r, s0, u0, hs, hu, hs0, hu0, hlen⟩ := runsAlike_of_low ⟨hbuild, hdraws, hlow⟩ hw hnarrow hfromd
  rw [hs] at hp
  rw [hu] at hq
  cases r with
  | error e =>
    rw [runCommand_error _ _ _ _ hwf] at hp hq
    cases hp; cases hq
    refine ⟨?_, fun hne => ?_, fun _ => ⟨rfl, rfl⟩⟩
    · simp [hs0.cmdcnt, hu0.cmdcnt]
    · exact absurd hs0.cmdcnt hne
  | ok vs =>
    rw [runCommand_ok _ _ _ _ hwf] at hp hq
    cases hp; cases hq
    have hl := hlen vs rfl
    have hle := destination_le i
    refine ⟨?_, fun _ k hk => ?_, fun hcount => ?_⟩
    · simp only [countCommand_cmdcnt, writeGroup_cmdcnt, hs0.cmdcnt, hu0.cmdcnt]
      bv_omega
    · rw [readReg_countCommand, readReg_countCommand, readReg_writeGroup_in _ _ _ (by omega) k (by omega),
        readReg_writeGroup_in _ _ _ (by omega) k (by omega)]
    · simp only [countCommand_cmdcnt, writeGroup_cmdcnt, hs0.cmdcnt] at hcount
      bv_omega

end Sys2Proof.Machine
end

section
/-! PROOFS for 20_memory.md. The offsets of the window fall into the general registers' part, where an offset names one
half of one register (R64), and the unmapped part, where nothing stands (R66); an access that is not 32 bits wide or
not aligned is refused before its offset is looked at (R61, R62). -/

namespace Sys2Proof.Machine

/-! ## The general registers' part of the window -/

/-- The offset is one of the 8 bytes at which register i stands (20_memory.md R64). -/
def InRegister (i : RegNum) (off : Nat) : Prop := 0x100 + 8 * i.toNat ≤ off ∧ off < 0x108 + 8 * i.toNat

theorem inRegister_low (i : RegNum) : InRegister i (0x100 + 8 * i.toNat) := by
  constructor <;> omega

theorem inRegister_high (i : RegNum) : InRegister i (0x104 + 8 * i.toNat) := by
  constructor <;> omega

/-- The window decodes the offset back to the register (20_memory.md R64). -/
theorem InRegister.windowReg {i : RegNum} {off : Nat} (h : InRegister i off) : windowReg off = i := by
  obtain ⟨hlow, hhigh⟩ := h
  have hquot : (off - 0x100) / 8 = i.toNat := by omega
  rw [Machine.windowReg, hquot, BitVec.ofNat_toNat, BitVec.setWidth_eq]

theorem InRegister.isRegOffset {i : RegNum} {off : Nat} (h : InRegister i off) : isRegOffset off = true := by
  obtain ⟨hlow, hhigh⟩ := h
  have hi := i.isLt
  simp only [Machine.isRegOffset, Bool.and_eq_true, decide_eq_true_eq]
  omega

/-- The registers' part lies inside the window and does not hold CMD (10_state.md R39). -/
theorem InRegister.inside {i : RegNum} {off : Nat} (h : InRegister i off) : off < 0x400 ∧ off ≠ 0x010 := by
  obtain ⟨hlow, hhigh⟩ := h
  have hi := i.isLt
  omega

theorem isHighWord_low (i : RegNum) : isHighWord (0x100 + 8 * i.toNat) = false := by
  simp only [isHighWord, decide_eq_false_iff_not]
  omega

theorem isHighWord_high (i : RegNum) : isHighWord (0x104 + 8 * i.toNat) = true := by
  simp only [isHighWord, decide_eq_true_eq]
  omega

theorem windowRead_low (s : State) (i : RegNum) :
    windowRead s (0x100 + 8 * i.toNat) = (s.readReg i).extractLsb' 0 32 := by
  have hreg := inRegister_low i
  simp [windowRead, regHalf, hreg.isRegOffset, hreg.windowReg, isHighWord_low]

theorem windowRead_high (s : State) (i : RegNum) :
    windowRead s (0x104 + 8 * i.toNat) = (s.readReg i).extractLsb' 32 32 := by
  have hreg := inRegister_high i
  simp [windowRead, regHalf, hreg.isRegOffset, hreg.windowReg, isHighWord_high]

theorem windowWrite_low (s : State) (i : RegNum) (v : Word32) :
    windowWrite s (0x100 + 8 * i.toNat) v = s.writeReg i ((s.readReg i).extractLsb' 32 32 ++ v) := by
  have hreg := inRegister_low i
  simp [windowWrite, State.writeHalf, hreg.isRegOffset, hreg.windowReg, isHighWord_low]

theorem windowWrite_high (s : State) (i : RegNum) (v : Word32) :
    windowWrite s (0x104 + 8 * i.toNat) v = s.writeReg i (v ++ (s.readReg i).extractLsb' 0 32) := by
  have hreg := inRegister_high i
  simp [windowWrite, State.writeHalf, hreg.isRegOffset, hreg.windowReg, isHighWord_high]

/-- Taking an access off the host's sequence reads no register (10_state.md R33). -/
theorem NextAccess.readReg {s s' : State} {a : HostAccess} (h : NextAccess s a s') (r : RegNum) :
    s'.readReg r = s.readReg r := by
  obtain ⟨rest, -, rfl⟩ := h
  rfl

/-- A write in register i's place that amounts to a write of x to that register: R64's frame. -/
theorem step_write_inRegister {s s' : State} {i : RegNum} {off : Nat} {v : Word32} {x : Word64}
    (hnext : NextAccess s (.write off 4 v) s') (halign : off % 4 = 0) (hreg : InRegister i off)
    (hwrite : windowWrite s' off v = s'.writeReg i x) :
    ∃ t, step s = .next t ∧ t = { s' with regs := t.regs } ∧
      t.readReg i = x ∧ ∀ q, q ≠ i → t.readReg q = s.readReg q := by
  obtain ⟨hin, hcmd⟩ := hreg.inside
  refine ⟨s'.writeReg i x, ?_, rfl, readReg_writeReg_self s' i x, fun q hq => ?_⟩
  · rw [step_windowWrite hnext halign hin hcmd, hwrite]
  · rw [readReg_writeReg_ne s' i q x hq, hnext.readReg]

/-- Settles O14: each half's offset decodes to its register and half, and a write of one half puts the other half
back as it was. -/
theorem registerHalves : Obligations.RegisterHalves := by
  intro s i
  have hlow := inRegister_low i
  have hhigh := inRegister_high i
  have alignLow : (0x100 + 8 * i.toNat) % 4 = 0 := by omega
  have alignHigh : (0x104 + 8 * i.toNat) % 4 = 0 := by omega
  refine ⟨?_, ?_, fun s' v hnext => ?_, fun s' v hnext => ?_⟩
  · rw [← windowRead_low]
    exact readsAs_windowRead s alignLow hlow.inside.1
  · rw [← windowRead_high]
    exact readsAs_windowRead s alignHigh hhigh.inside.1
  · rw [← hnext.readReg i]
    exact step_write_inRegister hnext alignLow hlow (windowWrite_low s' i v)
  · rw [← hnext.readReg i]
    exact step_write_inRegister hnext alignHigh hhigh (windowWrite_high s' i v)

/-! ## Accesses outside the contract -/

/-- The width is looked at first (20_memory.md R61). -/
theorem admitted_wrongSize {off size : Nat} (hsize : size ≠ 4) (k : Host.Outcome State Fault Refusal) :
    admitted off size k = .refused .accessSize := if_pos hsize

theorem admitted_misaligned {off : Nat} (halign : off % 4 ≠ 0) (k : Host.Outcome State Fault Refusal) :
    admitted off 4 k = .refused .misaligned := by
  rw [admitted, if_neg (by decide), if_pos halign]

/-- Settles O10: reads and writes alike pass through `admitted` before anything is done. -/
theorem otherAccessesRefused : Obligations.OtherAccessesRefused := by
  intro s off size v rest h
  have hadmitted : ∃ k, step s = admitted off size k := by
    rcases h with h | h
    · exact ⟨_, step_of_pending s _ rest h⟩
    · exact ⟨_, step_of_pending s _ rest h⟩
  obtain ⟨k, hstep⟩ := hadmitted
  refine ⟨fun hsize => ?_, fun hsize halign => ?_⟩
  · rw [hstep, admitted_wrongSize hsize]
  · rw [hstep, hsize, admitted_misaligned halign]

/-! ## Unmapped offsets -/

/-- The two unmapped ranges of the window (10_state.md R39; 20_memory.md R66). -/
def Unmapped (off : Nat) : Prop := (0x028 ≤ off ∧ off ≤ 0x0FC) ∨ (0x200 ≤ off ∧ off ≤ 0x3FC)

theorem Unmapped.inside {off : Nat} (h : Unmapped off) : off < 0x400 ∧ off ≠ 0x010 := by
  unfold Unmapped at h
  omega

theorem Unmapped.isRegOffset {off : Nat} (h : Unmapped off) : isRegOffset off = false := by
  unfold Unmapped at h
  simp only [Machine.isRegOffset, Bool.and_eq_false_iff, decide_eq_false_iff_not]
  omega

/-- No register's offset lies in the unmapped ranges, so the read falls to the last case. -/
theorem Unmapped.windowRead {off : Nat} (h : Unmapped off) (s : State) : windowRead s off = 0 := by
  unfold Machine.windowRead
  rw [h.isRegOffset, if_neg Bool.false_ne_true]
  unfold Unmapped at h
  split
  case h_10 => rfl
  all_goals omega

/-- Neither STATUS nor CTRL lies in the unmapped ranges, so the write falls to the last case. -/
theorem Unmapped.windowWrite {off : Nat} (h : Unmapped off) (s : State) (v : Word32) : windowWrite s off v = s := by
  unfold Machine.windowWrite
  rw [h.isRegOffset, if_neg Bool.false_ne_true]
  unfold Unmapped at h
  split
  case h_3 => rfl
  all_goals omega

/-- Settles O15: an unmapped offset is inside the window, and neither `windowRead` nor `windowWrite` has a register
there. -/
theorem unmappedOffsets : Obligations.UnmappedOffsets := by
  intro s off v halign (hrange : Unmapped off)
  obtain ⟨hin, hcmd⟩ := hrange.inside
  refine ⟨?_, ignoresWrite_of_windowWrite s halign hin hcmd fun s' => hrange.windowWrite s' v⟩
  rw [← hrange.windowRead s]
  exact readsAs_windowRead s halign hin

end Sys2Proof.Machine
end

section
/-! PROOFS for 30_encoding.md. Encoding and decoding are inverse, because `build` and `Instr.fields` are: of a command's
fields `build` answers the command, and where a row admits the fields, they are those of the command that `build`
answers. The pseudo-instructions are runs of commands that each write one register, and a run is described once. -/

namespace Sys2Proof

/-! ## Codes of the families, the vector lengths and the broadcast bit -/

@[simp] theorem ofCode_family_code (w : Family) : Family.ofCode w.code = w := by cases w <;> rfl

@[simp] theorem code_family_ofCode (b : BitVec 1) : (Family.ofCode b).code = b := by
  revert b; decide

@[simp] theorem ofCode_vlen_code (vl : VLen) : VLen.ofCode vl.code = vl := by cases vl <;> rfl

@[simp] theorem code_vlen_ofCode (b : BitVec 2) : (VLen.ofCode b).code = b := by
  revert b; decide

@[simp] theorem ofBool_beq_one (sb : Bool) : (BitVec.ofBool sb == 1#1) = sb := by cases sb <;> rfl

@[simp] theorem ofBool_of_beq_one (b : BitVec 1) : BitVec.ofBool (b == 1#1) = b := by
  revert b; decide

/-! ## The round trip -/

/-- The command that a command's own OP and TIER name is that command (30_encoding.md R98, R105). -/
theorem build_fields (i : Instr) : build i.fields = some i := by
  cases i <;>
  · change some _ = some _
    simp [Instr.fields]

/-- The decoder answers no command but the one that OP and TIER name (30_encoding.md R105). -/
theorem build_of_decodeFields {f : Fields} {i : Instr} (h : decodeFields f = .ok i) : build f = some i := by
  unfold decodeFields at h
  split at h
  · cases h
  · split_ifs at h
    split at h
    next j hj =>
      cases h
      exact hj
    next => cases h

/-- What a row says of the fields that its commands have no argument for (30_encoding.md R95, R96, R98). -/
structure FixedFields (r : Row) (f : Fields) : Prop where
  fams : f.w ∈ r.fams
  vls : f.vl ∈ r.vls
  s : r.bcast = false → f.s = 0
  rd : r.d = .unused → f.rd = 0
  rs1 : r.a = .unused → f.rs1 = 0
  rs2 : r.b = .unused → f.rs2 = 0
  rs3 : r.c = .unused → f.rs3 = 0

theorem fixedFields_of_rowAdmits {r : Row} {f : Fields} (h : rowAdmits r f = true) : FixedFields r f := by
  simp only [rowAdmits, broadcastAdmitted, unusedZero, Bool.and_eq_true, Bool.or_eq_true, List.contains_iff_mem,
    beq_iff_eq, bne_iff_ne] at h
  obtain ⟨⟨⟨⟨⟨⟨hfam, -⟩, hvl⟩, hs⟩, ⟨⟨hrd, hrs1⟩, hrs2⟩, hrs3⟩, -⟩, -⟩ := h
  refine ⟨hfam, hvl, fun hb => ?_, fun hu => hrd.resolve_left (not_not_intro hu),
    fun hu => hrs1.resolve_left (not_not_intro hu), fun hu => hrs2.resolve_left (not_not_intro hu),
    fun hu => hrs3.resolve_left (not_not_intro hu)⟩
  simpa [hb] using hs

/-- Where a row admits the fields, they are the fields of the command that they name: a field is an argument of the
command, or the row fixes it (30_encoding.md R95, R98, R99). -/
theorem fields_of_build {f : Fields} {r : Row} {i : Instr} (hr : r ∈ rows) (hop : r.op = f.op)
    (hadmits : rowAdmits r f = true) (hbuild : build f = some i) : i.fields = f := by
  have htier := tier_of_rowAdmits hadmits
  obtain ⟨hfam, hvl, hs, hrd, hrs1, hrs2, hrs3⟩ := fixedFields_of_rowAdmits hadmits
  clear hadmits
  obtain ⟨op, w, tier, vl, s, rd, rs1, rs2, rs3⟩ := f
  simp only at hop htier hfam hvl hs hrd hrs1 hrs2 hrs3
  subst hop
  fin_cases hr <;> fin_cases htier <;>
  · cases hbuild
    simp_all [Instr.fields]

/-- Settles O1: the word of a legal command is legal, so it decodes, and to the command that its fields name. -/
theorem decodeOfEncode : Obligations.DecodeOfEncode := by
  intro i hw
  obtain ⟨j, hj⟩ := (decode_ok_iff_legal (encode i)).mpr (by rw [legal_encode, hw])
  have hbuild : build i.fields = some j := build_of_decodeFields (by rwa [decode, unpack_encode] at hj)
  rw [build_fields] at hbuild
  cases hbuild
  exact hj

/-- A word that decodes has the fields of the command it decodes to. -/
theorem fields_of_decode {c : Word32} {i : Instr} (h : decode c = .ok i) : i.fields = unpack c := by
  have hlegal : legal c = true := (decode_ok_iff_legal c).mp ⟨i, h⟩
  cases hrow : rowOf (unpack c).op with
  | none =>
    rw [legal_of_no_row hrow] at hlegal
    cases hlegal
  | some r =>
    obtain ⟨hmem, hop⟩ := rowOf_some hrow
    rw [legal_of_row hrow] at hlegal
    exact fields_of_build hmem hop hlegal (build_of_decodeFields h)

/-- Settles O2: a word that decodes is packed from its command's fields, and legal words are those of legal commands. -/
theorem encodeOfDecode : Obligations.EncodeOfDecode := by
  refine fun c => ⟨decode_ok_iff_legal c, fun i h => ?_⟩
  have hword : encode i = c := by rw [encode, fields_of_decode h, pack_unpack]
  refine ⟨?_, hword⟩
  rw [← legal_encode, hword]
  exact (decode_ok_iff_legal c).mp ⟨i, h⟩

/-! ## Examples -/

/-- The word of a legal command decodes to it. -/
theorem decode_of_encode_eq {c : Word32} {i : Instr} (hword : encode i = c) (hw : i.wellFormed = true) :
    decode c = .ok i := by
  rw [← hword]
  exact decodeOfEncode i hw

/-- Settles O5: each word is the word of its command, and each text is read off the command's row. -/
theorem exampleWords : Obligations.ExampleWords := by
  refine ⟨decode_of_encode_eq rfl rfl, decode_of_encode_eq rfl rfl, decode_of_encode_eq rfl rfl,
    decode_of_encode_eq rfl rfl, decode_of_encode_eq rfl rfl, decode_of_encode_eq rfl rfl, decode_of_encode_eq rfl rfl,
    decode_of_encode_eq rfl rfl, decode_of_encode_eq rfl rfl, rfl, rfl, rfl, rfl, ?_⟩
  simp [Machine.romNames]

/-! ## Reserved opcodes -/

/-- The opcodes of 30_encoding.md R102. -/
def reservedOpcodes : List Nat :=
  [0x0F, 0x1B, 0x1C, 0x1D, 0x1E, 0x1F, 0x23, 0x24, 0x25, 0x26, 0x27, 0x33, 0x34, 0x35, 0x36, 0x37, 0x3F]

/-- The table has a row for every opcode but the reserved ones (30_encoding.md R102). -/
theorem rowOf_eq_none_iff : ∀ op : BitVec 6, rowOf op = none ↔ op.toNat ∈ reservedOpcodes := by decide

end Sys2Proof

namespace Sys2Proof.Machine

/-- An illegal word written to CMD while no fault is held takes IllegalCommand (60_exceptions.md R341, R345). -/
theorem step_illegalWord {s s' : State} {c : Word32} (h : NextAccess s (.write 0x010 4 c) s')
    (hheld : s.faultHeld = false) (hillegal : legal c = false) :
    ∃ t, step s = .next t ∧ Faulted s' t c .illegalCommand 0 0 0 := by
  have hheld' : s'.faultHeld = false := by
    obtain ⟨rest, -, rfl⟩ := h
    exact hheld
  refine ⟨_, ?_, faulted_enterFault s' c .illegalCommand 0 0 0⟩
  rw [step_writeCmd h, writeCmd, hheld', if_neg Bool.false_ne_true]
  cases hdecode : decode c with
  | error d => rfl
  | ok i =>
    rw [(decode_ok_iff_legal c).mp ⟨i, hdecode⟩] at hillegal
    cases hillegal

/-- Settles O3: a reserved opcode has no row. -/
theorem reservedOpcodesFault : Obligations.ReservedOpcodesFault := by
  intro c s s' hop
  have hillegal : legal c = false := legal_of_no_row ((rowOf_eq_none_iff _).mpr hop)
  exact ⟨hillegal, fun hnext hheld => step_illegalWord hnext hheld hillegal⟩

/-! ## The index of CONST -/

/-- Entries 14 and 15 of the constant ROM are 0 in every build (10_state.md R36). -/
theorem romEntry_unused (b : Build) (w : Family) {k : Nat} (hk : k = 14 ∨ k = 15) : romEntry b w k = 0 := by
  rcases hk with rfl | rfl
  all_goals
    show romParamOf b w _ = 0
    unfold romParamOf
    split <;> rfl

/-- CONST writes its ROM entry (40_conversion.md R132). -/
theorem computesOne_const (w : Family) (rd k : RegNum) (s : State) (hk : romIndexFits k = true) :
    ComputesOne (.const w rd k) s rd w (romEntry s.build w k.toNat) := by
  refine computes_of_run _ s rd 1 _ [result w (romEntry s.build w k.toNat)] rfl hk (by decide) rfl fun j hj => ?_
  rw [List.getElem_singleton]

/-- Settles O4: the word is that of a CONST command, which is legal for the indices below 16. -/
theorem constIndexRange : Obligations.ConstIndexRange := by
  intro w rd k s
  have hlegal : legal (pack ⟨0x02, w.code, 0, 0, 0, rd, k, 0, 0⟩) = romIndexFits k := legal_encode (.const w rd k)
  rw [hlegal]
  refine ⟨fun hk => decide_eq_false (by omega), fun hk => ?_⟩
  have hunused : k.toNat = 14 ∨ k.toNat = 15 := hk.imp (congrArg BitVec.toNat) (congrArg BitVec.toNat)
  have hfits : romIndexFits k = true := decide_eq_true (by omega)
  refine ⟨hfits, ?_⟩
  have hconst := computesOne_const w rd k s hfits
  rwa [romEntry_unused s.build w hunused] at hconst

/-! ## Pseudo-instructions -/

theorem execAll_singleton (i : Instr) (s : State) : execAll [i] s = exec i s := by
  cases h : exec i s <;> simp [execAll, h]

/-- A run of commands that is followed by one more (30_encoding.md R107). -/
theorem execAll_append_singleton {is : List Instr} {i : Instr} {s t : State} (h : execAll (is ++ [i]) s = .next t) :
    ∃ u, execAll is s = .next u ∧ exec i u = .next t := by
  induction is generalizing s with
  | nil => exact ⟨s, rfl, by rwa [List.nil_append, execAll_singleton] at h⟩
  | cons j is ih =>
    rw [List.cons_append, execAll] at h
    rw [execAll]
    cases hj : exec j s with
    | next u =>
      simp only [hj] at h
      exact ih h
    | fault | refused => simp only [hj] at h; cases h

/-- Writing the wrapped value of v and reading it back as an operand (00_scope.md R12). -/
@[simp] theorem opnd_writeReg_self (w : Family) (s : State) (r : RegNum) (v : Int) :
    opnd w (s.writeReg r (result w v)) r = wrap w.bits v :=
  opnd_of_readReg w _ r v (readReg_writeReg_self s r _)

theorem opnd_writeReg_ne (w : Family) (s : State) (r q : RegNum) (v : Word64) (h : q ≠ r) :
    opnd w (s.writeReg r v) q = opnd w s q := by
  unfold opnd
  rw [readReg_writeReg_ne s r q v h]

/-- An operand is in the raw range of its family, so wrapping does nothing to it. -/
@[simp] theorem wrap_opnd (w : Family) (s : State) (r : RegNum) : wrap w.bits (opnd w s r) = opnd w s r := by
  simp [wrap, opnd]

theorem wrap_sub_wrap_left (n : Nat) (a b : Int) : wrap n (wrap n a - b) = wrap n (a - b) := by
  simp [wrap]

@[simp] theorem writeGroup_singleton (s : State) (rd : RegNum) (v : Word64) :
    s.writeGroup rd [v] = s.writeReg rd v := rfl

/-- CONST of entry 1 writes ONE (40_conversion.md R132). -/
theorem exec_const_one (w : Family) (rd : RegNum) (s : State) :
    exec (.const w rd 1) s = .next (s.writeReg rd (result w (2 ^ fracBits s.build w))).countCommand := rfl

/-- NEG writes the negation (41_scalar_arith.md R179). -/
theorem exec_neg (w : Family) (rd rs1 : RegNum) (s : State) :
    exec (.neg w rd rs1) s = .next (s.writeReg rd (result w (-opnd w s rs1))).countCommand := by
  rw [← result_wrap]
  rfl

/-- Every register is a group of one register (30_encoding.md R100). -/
@[simp] theorem groupFits_x1 (r : RegNum) : groupFits .x1 r = true :=
  decide_eq_true (Nat.le_of_lt_succ r.isLt)

/-- The scalar SUB writes the difference (41_scalar_arith.md R171). -/
theorem exec_sub_x1 (w : Family) (rd rs1 rs2 : RegNum) (s : State) :
    exec (.sub w .x1 false rd rs1 rs2) s =
      .next (s.writeReg rd (result w (opnd w s rs1 - opnd w s rs2))).countCommand := by
  have hrun : exec (.sub w .x1 false rd rs1 rs2) s = runCommand (.sub w .x1 false rd rs1 rs2) rd
      (.ok [result w (subW w (opnd w s (comp rs1 0)) (opnd w s (comp rs2 0)))]) s := rfl
  rw [hrun, runCommand_ok _ _ _ _ (by simp [Instr.wellFormed, broadcastFits]), writeGroup_singleton,
    comp_zero, comp_zero, subW, result_wrap]

/-- The scalar MOV copies the operand (40_conversion.md R131). -/
theorem exec_mov_x1 (w : Family) (rd rs1 : RegNum) (s : State) :
    exec (.mov w .x1 rd rs1) s = .next (s.writeReg rd (result w (opnd w s rs1))).countCommand := by
  have hrun : exec (.mov w .x1 rd rs1) s =
      runCommand (.mov w .x1 rd rs1) rd (.ok [result w (opnd w s (comp rs1 0))]) s := rfl
  rw [hrun, runCommand_ok _ _ _ _ (by simp [Instr.wellFormed]), writeGroup_singleton, comp_zero]

/-- sub1 leaves ONE - rs1 in rd: SUB reads ONE from the scratch register and rs1 as it was, because the two are
different registers (30_encoding.md R107). -/
theorem opnd_sub1 {w : Family} {rd rs1 rt : RegNum} {s t : State} (hne : rs1 ≠ rt)
    (h : execAll (Pseudo.sub1 w rd rs1 rt).expand s = .next t) :
    opnd w t rd = wrap w.bits (2 ^ fracBits s.build w - opnd w s rs1) := by
  simp only [Pseudo.expand, execAll, exec_const_one, exec_sub_x1, opnd_countCommand, opnd_writeReg_self,
    opnd_writeReg_ne _ _ _ _ _ hne, Host.Outcome.next.injEq] at h
  rw [← h, opnd_countCommand, opnd_writeReg_self, wrap_sub_wrap_left]

/-! ### Runs of commands that each write one component of a group -/

/-- Command i of the run writes component i of the group from rd: g i of component i of the group from rs1. -/
def WritesComponents (w : Family) (rd rs1 : RegNum) (g : Nat → Int → Int) (c : Nat → Instr) : Prop :=
  ∀ i s, exec (c i) s =
    .next (s.writeReg (comp rd i) (result w (g i (opnd w s (comp rs1 i))))).countCommand

/-- Component i of the group from rs1 as command i of a run from s to t reads it: a register that an earlier command of
the run wrote holds what the run leaves there, and any other what it held before. -/
def componentSeen (w : Family) (rd rs1 : RegNum) (s t : State) (i : Nat) : Int :=
  if ∃ j < i, comp rs1 i = comp rd j then opnd w t (comp rs1 i) else opnd w s (comp rs1 i)

theorem componentSeen_of_untouched {w : Family} {rd rs1 : RegNum} {s t : State} {i : Nat}
    (h : ∀ j < i, comp rs1 i ≠ comp rd j) : componentSeen w rd rs1 s t i = opnd w s (comp rs1 i) :=
  if_neg fun ⟨j, hj, e⟩ => h j hj e

/-- What command i reads depends on what the run leaves in the components before i only. -/
theorem componentSeen_congr {w : Family} {rd rs1 : RegNum} {s t u : State} {i : Nat}
    (h : ∀ j < i, opnd w t (comp rd j) = opnd w u (comp rd j)) :
    componentSeen w rd rs1 s t i = componentSeen w rd rs1 s u i := by
  unfold componentSeen
  split
  next hwritten =>
    obtain ⟨j, hj, e⟩ := hwritten
    rw [e, h j hj]
  next => rfl

/-- A run leaves g i of what command i read in component i of the group from rd, and every other register as it was:
each component is written once. -/
theorem opnd_of_run {w : Family} {rd rs1 : RegNum} {g : Nat → Int → Int} {c : Nat → Instr}
    (hc : WritesComponents w rd rs1 g c) {n : Nat} (hn : n ≤ 32) {s t : State}
    (h : execAll ((List.range n).map c) s = .next t) :
    (∀ i < n, opnd w t (comp rd i) = wrap w.bits (g i (componentSeen w rd rs1 s t i))) ∧
    ∀ q, (∀ i < n, q ≠ comp rd i) → opnd w t q = opnd w s q := by
  induction n generalizing t with
  | zero =>
    cases h
    exact ⟨fun i hi => absurd hi (Nat.not_lt_zero i), fun q _ => rfl⟩
  | succ n ih =>
    rw [List.range_succ, List.map_append, List.map_singleton] at h
    obtain ⟨u, hu, hlast⟩ := execAll_append_singleton h
    obtain ⟨hcomps, hframe⟩ := ih (by omega) hu
    rw [hc n u, Host.Outcome.next.injEq] at hlast
    have hwritten : opnd w t (comp rd n) = wrap w.bits (g n (opnd w u (comp rs1 n))) := by
      rw [← hlast, opnd_countCommand, opnd_writeReg_self]
    have hkeep : ∀ q ≠ comp rd n, opnd w t q = opnd w u q := fun q hq => by
      rw [← hlast, opnd_countCommand, opnd_writeReg_ne _ _ _ _ _ hq]
    have hearlier : ∀ j < n, comp rd j ≠ comp rd n := fun j hj e => by
      have := comp_inj rd j n (by omega) (by omega) e
      omega
    refine ⟨fun i hi => ?_, fun q hq => ?_⟩
    · rw [componentSeen_congr fun j hj => hkeep _ (hearlier j (by omega))]
      rcases Nat.lt_succ_iff_lt_or_eq.mp hi with hlt | rfl
      · rw [hkeep _ (hearlier i hlt), hcomps i hlt]
      · -- Command i reads u: what earlier commands wrote stands there, and the rest is as in s.
        have hseen : componentSeen w rd rs1 s u i = opnd w u (comp rs1 i) := by
          unfold componentSeen
          split
          next => rfl
          next hnot => exact (hframe _ fun j hj e => hnot ⟨j, hj, e⟩).symm
        rw [hwritten, hseen]
    · rw [hkeep q (hq n (by omega)), hframe q fun i hi => hq i (by omega)]

/-- In a group that fits, component i is register r + i (30_encoding.md R100). -/
theorem toNat_comp {vl : VLen} {r : RegNum} (hfits : groupFits vl r = true) {i : Nat} (hi : i < vl.count) :
    (comp r i).toNat = r.toNat + i := by
  have hle : r.toNat + vl.count - 1 ≤ 31 := of_decide_eq_true hfits
  simp only [comp, BitVec.toNat_add, BitVec.toNat_ofNat]
  omega

theorem writesComponents_neg (w : Family) (rd rs1 : RegNum) :
    WritesComponents w rd rs1 (fun _ x => -x) fun i => .neg w (comp rd i) (comp rs1 i) := fun _ _ => exec_neg ..

/-- vneg negates its group: in one group, or in groups that do not overlap, no component is read after it was written
(30_encoding.md R107). -/
theorem opnd_vneg {w : Family} {vl : VLen} {rd rs1 : RegNum} {s t : State}
    (hwf : (Pseudo.vneg w vl rd rs1).wellFormed = true)
    (h : execAll (Pseudo.vneg w vl rd rs1).expand s = .next t) {i : Nat} (hi : i < vl.count) :
    opnd w t (comp rd i) = wrap w.bits (-opnd w s (comp rs1 i)) := by
  have hcount := vlen_le vl
  simp only [Pseudo.wellFormed, Bool.and_eq_true, Bool.or_eq_true, beq_iff_eq, decide_eq_true_eq] at hwf
  obtain ⟨⟨hrd, hrs1⟩, hapart⟩ := hwf
  obtain ⟨hcomps, -⟩ := opnd_of_run (writesComponents_neg w rd rs1) (by omega) h
  rw [hcomps i hi, componentSeen_of_untouched]
  intro j hj e
  have he := congrArg BitVec.toNat e
  rw [toNat_comp hrs1 hi, toNat_comp hrd (by omega)] at he
  rcases hapart with (rfl | hbelow) | habove <;> omega

/-- Command i of qconj (30_encoding.md R107). -/
def qconjCommand (rd rs1 : RegNum) (i : Nat) : Instr :=
  if i < 3 then .neg .q32 (comp rd i) (comp rs1 i) else .mov .q32 .x1 (comp rd i) (comp rs1 i)

theorem expand_qconj (rd rs1 : RegNum) :
    (Pseudo.qconj rd rs1).expand = (List.range VLen.x4.count).map (qconjCommand rd rs1) := by
  have hlist : (List.range VLen.x4.count).map (qconjCommand rd rs1) =
      [.neg .q32 (comp rd 0) (comp rs1 0), .neg .q32 (rd + 1) (rs1 + 1), .neg .q32 (rd + 2) (rs1 + 2),
        .mov .q32 .x1 (rd + 3) (rs1 + 3)] := rfl
  rw [hlist, comp_zero, comp_zero, Pseudo.expand]

theorem writesComponents_qconj (rd rs1 : RegNum) :
    WritesComponents .q32 rd rs1 (fun i x => if i < 3 then -x else x) (qconjCommand rd rs1) := by
  intro i s
  by_cases hi : i < 3
  · simp only [qconjCommand, if_pos hi]
    exact exec_neg ..
  · simp only [qconjCommand, if_neg hi]
    exact exec_mov_x1 ..

/-- Component i of qconj's source was written before it is read exactly if it lies in the destination group below
component i (30_encoding.md R107). -/
theorem qconj_overlap_iff {rd rs1 : RegNum} (hrd : groupFits .x4 rd = true) (hrs1 : groupFits .x4 rs1 = true) {i : Nat}
    (hi : i < VLen.x4.count) :
    (∃ j < i, comp rs1 i = comp rd j) ↔ rs1.toNat < rd.toNat ∧ rd.toNat ≤ rs1.toNat + i := by
  constructor
  · rintro ⟨j, hj, e⟩
    have he := congrArg BitVec.toNat e
    rw [toNat_comp hrs1 hi, toNat_comp hrd (by omega)] at he
    omega
  · intro hover
    have hlt : rs1.toNat + i - rd.toNat < i := by omega
    refine ⟨rs1.toNat + i - rd.toNat, hlt, BitVec.eq_of_toNat_eq ?_⟩
    rw [toNat_comp hrs1 hi, toNat_comp hrd (by omega)]
    omega

/-- qconj leaves the negation of each of components 0 to 2 as it read it, and component 3 (30_encoding.md R107). -/
theorem opnd_qconj {rd rs1 : RegNum} {s t : State} (hwf : (Pseudo.qconj rd rs1).wellFormed = true)
    (h : execAll (Pseudo.qconj rd rs1).expand s = .next t) {i : Nat} (hi : i < VLen.x4.count) :
    let a := if rs1.toNat < rd.toNat ∧ rd.toNat ≤ rs1.toNat + i then opnd .q32 t (comp rs1 i)
      else opnd .q32 s (comp rs1 i)
    opnd .q32 t (comp rd i) = wrap 64 (if i < 3 then -a else a) := by
  simp only [Pseudo.wellFormed, Bool.and_eq_true] at hwf
  obtain ⟨hrd, hrs1⟩ := hwf
  rw [expand_qconj] at h
  obtain ⟨hcomps, -⟩ := opnd_of_run (writesComponents_qconj rd rs1) (by decide) h
  simp only [hcomps i hi, componentSeen, qconj_overlap_iff hrd hrs1 hi]

/-- Settles O59: single commands, the two commands of sub1, and the runs of vneg and qconj. -/
theorem pseudoInstructionEffects : Obligations.PseudoInstructionEffects := by
  refine ⟨fun w rd rs1 rs2 s => ?_, fun w rd rs1 rt s t hwf h => ?_,
    fun w vl rd rs1 s t hwf h i hi => opnd_vneg hwf h hi, fun rd rs1 s t hwf h => ?_⟩
  · exact ⟨execAll_singleton .., execAll_singleton .., execAll_singleton .., execAll_singleton ..⟩
  · exact opnd_sub1 (Ne.symm (by simpa [Pseudo.wellFormed] using hwf)) h
  · refine ⟨fun i hi => ?_, ?_⟩
    · rw [opnd_qconj hwf h (show i < 4 by omega), if_pos hi]
    · rw [opnd_qconj hwf h (show 3 < 4 by omega), if_neg (by decide)]
      dsimp only
      split <;> exact wrap_opnd .q32 _ _

end Sys2Proof.Machine
end

section
/-! PROOFS for 40_conversion.md. The moves and the integer conversions run one total computation each. FROMF and FROMD
compute the truncation of the float's scaled value, whatever the format. TOF and TOD compute a significand that is
nearest to the operand, and the value of their pattern is read off it; where the significand loses no bit, the
conversion is exact. -/

namespace Sys2Proof.Machine

/-! ## Commands without a domain condition -/

/-- A legal componentwise command without a domain condition completes with its components' values
(44_vector.md R300). -/
theorem computes_of_components {i : Instr} {w : Family} {n : Nat} {rd : RegNum} {s : State} {g : Nat → Int}
    (he : exec i s = runCommand i rd (componentwise w n fun k => .ok (g k)) s) (hw : i.wellFormed = true)
    (hn : n ≤ 32) : Computes i s rd n fun k => result w (g k) := by
  rw [componentwise_ok w n _ g fun _ _ => rfl] at he
  exact computes_of_run i s rd n _ _ he hw hn (by simp) (by simp)

/-- A legal command with one family-W result and no domain condition completes with it (00_scope.md R12). -/
theorem computesOne_of_single {i : Instr} {w : Family} {rd : RegNum} {s : State} {v : Int}
    (he : exec i s = runCommand i rd (single w (.ok v)) s) (hw : i.wellFormed = true) : ComputesOne i s rd w v :=
  computes_of_run i s rd 1 _ [result w v] he hw (by decide) rfl (by simp)

/-- The destination of a command that completed with one value holds it. -/
theorem readReg_of_computes {i : Instr} {s t : State} {rd : RegNum} {v : Nat → Word64} (h : Computes i s rd 1 v)
    (ht : exec i s = .next t) : t.readReg rd = v 0 := by
  obtain ⟨u, hu, ⟨⟨hwritten, -⟩, -⟩, -⟩ := h
  rw [hu, Host.Outcome.next.injEq] at ht
  rw [← ht, ← hwritten 0 Nat.one_pos, comp_zero]

theorem opnd_of_computesOne {i : Instr} {s t : State} {rd : RegNum} {w : Family} {v : Int}
    (h : ComputesOne i s rd w v) (ht : exec i s = .next t) : opnd w t rd = wrap w.bits v :=
  opnd_of_readReg w t rd v (readReg_of_computes h ht)

/-! ## Moves -/

/-- Settles O29: WIDEN's wrap is the one that writing its result does anyway, and the other commands write the values
of their rules as they stand. -/
theorem moveResults : Obligations.MoveResults := by
  intro w vl rd rs1 k s
  have hcount : vl.count ≤ 32 := (vlen_le vl).trans (by decide)
  refine ⟨?_, fun hw => computes_of_components rfl hw hcount, fun hk => ?_, fun hw => ?_,
    fun hw => computes_of_components rfl hw hcount⟩
  · exact computes_of_run .nop s rd 0 _ [] rfl rfl (by decide) rfl (by simp)
  · exact computesOne_const w rd k s (decide_eq_true hk)
  · have hwiden : Computes (.widen vl rd rs1) s rd vl.count fun i =>
        result .q32 (wrap 64 (opnd .q16 s (comp rs1 i) * 2 ^ (s.build.frac64.bits - 16))) :=
      computes_of_components rfl hw hcount
    simpa only [result_wrap .q32] using hwiden

/-! ## Integers -/

/-- Settles O31: each of the four writes the value of its rule. -/
theorem integerConversionResults : Obligations.IntegerConversionResults := fun _ _ _ _ =>
  ⟨computesOne_of_single rfl rfl, computesOne_of_single rfl rfl, computesOne_of_single rfl rfl,
    computesOne_of_single rfl rfl⟩

theorem wrap_of_inRange {w : Family} {v : Int} (hmin : minRaw w ≤ v) (hmax : v ≤ maxRaw w) : wrap w.bits v = v := by
  refine wrap_of_range w.bits (by cases w <;> decide) v hmin ?_
  unfold maxRaw at hmax
  omega

/-- A shift to the right keeps a value in range (00_scope.md R11). -/
theorem asr_inRange {w : Family} {v : Int} (hmin : minRaw w ≤ v) (hmax : v ≤ maxRaw w) (k : Nat) :
    minRaw w ≤ asr v k ∧ asr v k ≤ maxRaw w := by
  have hpow : (1 : Int) ≤ 2 ^ k := one_le_pow₀ (by decide)
  have hmin0 : minRaw w ≤ 0 := by cases w <;> decide
  have hmax0 : 0 ≤ maxRaw w := by cases w <;> decide
  unfold asr
  constructor
  · rw [Int.le_ediv_iff_mul_le (by omega)]
    nlinarith
  · refine Int.ediv_le_of_le_mul (by omega) ?_
    nlinarith

/-- CEIL and ROUND add a bias that is not negative and shift. Where the sum does not wrap, they give the greatest
integer not above it (40_conversion.md R137, R138). -/
theorem wrap_asr_wrap_bounds {w : Family} {s : State} {r : RegNum} {bias : Int} (hbias : 0 ≤ bias)
    (hmax : opnd w s r + bias ≤ maxRaw w) (k : Nat) :
    wrap w.bits (asr (wrap w.bits (opnd w s r + bias)) k) * 2 ^ k ≤ opnd w s r + bias ∧
      opnd w s r + bias < (wrap w.bits (asr (wrap w.bits (opnd w s r + bias)) k) + 1) * 2 ^ k := by
  obtain ⟨hopnd, -⟩ := opnd_range w s r
  have hmin : minRaw w ≤ opnd w s r + bias := by omega
  obtain ⟨hlo, hhi⟩ := asr_inRange hmin hmax k
  rw [wrap_of_inRange hmin hmax, wrap_of_inRange hlo hhi]
  exact ⟨Int.ediv_mul_le _ (by positivity), Int.lt_ediv_add_one_mul_self _ (by positivity)⟩

/-- Settles O32: the bias of CEIL is ONE - 1 and that of ROUND half of ONE. -/
theorem ceilAndRoundAreNearest : Obligations.CeilAndRoundAreNearest := by
  intro w rd rs1 s t
  have hone : (1 : Int) ≤ 2 ^ fracBits s.build w := one_le_pow₀ (by decide)
  obtain ⟨-, -, hceil, hround⟩ := integerConversionResults w rd rs1 s
  refine ⟨fun hmax ht => ?_, fun hmax ht => ?_⟩
  · rw [opnd_of_computesOne hceil ht]
    rw [add_sub_assoc] at hmax ⊢
    obtain ⟨hle, hlt⟩ := wrap_asr_wrap_bounds (by omega) hmax (fracBits s.build w)
    constructor <;> linarith
  · rw [opnd_of_computesOne hround ht]
    obtain ⟨hle, hlt⟩ := wrap_asr_wrap_bounds (by positivity) hmax (fracBits s.build w)
    have hhalf : 2 * (2 : Int) ^ (fracBits s.build w - 1) = 2 ^ fracBits s.build w := two_mul_romEntry_half s.build w
    constructor <;> linarith

/-! ## Truncation -/

/-- Truncation is odd (00_scope.md R11). -/
@[simp] theorem truncRat_neg (q : Rat) : truncRat (-q) = -truncRat q := by
  unfold truncRat
  rcases lt_trichotomy q 0 with h | rfl | h
  · rw [if_pos (by linarith), if_neg (by linarith), Int.floor_neg]
  · simp
  · rw [if_neg (by linarith), if_pos (by linarith), Int.ceil_neg]

/-- Truncating a quotient of natural numbers is dividing them (00_scope.md R11). -/
theorem truncRat_natCast_div (a b : Nat) : truncRat ((a : Rat) / b) = (a / b : Nat) := by
  rw [truncRat, if_pos (by positivity), Rat.floor_natCast_div_natCast, Int.natCast_div]

/-- Truncation stays within less than 1 of the value (00_scope.md R11). -/
theorem abs_sub_truncRat_lt (q : Rat) : |q - truncRat q| < 1 := by
  unfold truncRat
  rw [abs_lt]
  split
  · constructor <;> linarith [Int.floor_le q, Int.lt_floor_add_one q]
  · constructor <;> linarith [Int.le_ceil q, Int.ceil_lt_add_one q]

theorem le_truncRat {z : Int} {q : Rat} (h : (z : Rat) ≤ q) : z ≤ truncRat q := by
  unfold truncRat
  split
  · exact Int.le_floor.mpr h
  · exact_mod_cast h.trans (Int.le_ceil q)

theorem truncRat_lt {z : Int} {q : Rat} (hz : 0 < z) (h : q < z) : truncRat q < z := by
  unfold truncRat
  split
  next => exact Int.floor_lt.mpr h
  next hneg => exact (Int.ceil_le.mpr (by exact_mod_cast (not_le.mp hneg).le)).trans_lt hz

theorem natAbs_truncRat_lt {n : Nat} {q : Rat} (h : |q| < n) : (truncRat q).natAbs < n := by
  have hn : 0 < (n : Int) := by exact_mod_cast (abs_nonneg q).trans_lt h
  have habove : truncRat q < n := truncRat_lt hn ((le_abs_self q).trans_lt h)
  have hbelow : truncRat (-q) < n := truncRat_lt hn ((neg_le_abs q).trans_lt h)
  rw [truncRat_neg] at hbelow
  omega

/-- An integer is its own truncation (00_scope.md R11). -/
theorem truncRat_of_abs_eq {n : Nat} {q : Rat} (h : |q| = n) : (truncRat q : Rat) = q ∧ (truncRat q).natAbs = n := by
  have hnat : truncRat (n : Rat) = n := by
    rw [truncRat, if_pos (by positivity), Int.floor_natCast]
  rcases (abs_eq (by positivity)).mp h with rfl | rfl
  · simp [hnat]
  · simp [hnat]

/-! ## From floats -/

/-- Multiplying by `2^up` and dividing by `2^down` is one shift, to the left or to the right. -/
theorem mul_two_pow_div_two_pow (n up down : Nat) :
    n * 2 ^ up / 2 ^ down = if down ≤ up then n * 2 ^ (up - down) else n / 2 ^ (down - up) := by
  split
  next h => rw [Nat.mul_div_assoc _ (Nat.pow_dvd_pow 2 h), Nat.pow_div h (by decide)]
  next h =>
    have hsplit : 2 ^ down = 2 ^ (down - up) * 2 ^ up := by rw [← Nat.pow_add]; congr 1; omega
    rw [hsplit, Nat.mul_div_mul_right _ _ (by positivity)]

/-- The integer arithmetic of the conversion is truncation of the scaled value (40_conversion.md R140, R141). -/
theorem floatToFixed_eq (eb fb F p : Nat) :
    floatToFixed eb fb F p = (binaryValue eb fb p).map fun q => truncRat (q * 2 ^ F) := by
  have hmag (sig x : Nat) :
      truncRat ((sig * 2 ^ x : Nat) / (2 ^ (2 ^ (eb - 1) - 1 + fb) : Nat) * 2 ^ F : Rat) =
        (if floatBias eb + fb ≤ x + F then sig * 2 ^ (x + F - (floatBias eb + fb))
          else sig / 2 ^ (floatBias eb + fb - (x + F)) : Nat) := by
    rw [← mul_two_pow_div_two_pow, ← truncRat_natCast_div, floatBias]
    congr 1
    push_cast
    ring
  simp only [floatToFixed, binaryValue]
  split
  next => rfl
  next =>
    rw [Option.map_some, ← hmag]
    split
    next => rw [neg_mul, truncRat_neg]
    next => rfl

theorem floatOperand_eq (w : Family) (s : State) (r : RegNum) :
    floatOperand w s r = (binaryValue 8 23 ((s.readReg r).extractLsb' 0 32).toNat).map
      fun q => truncRat (q * 2 ^ fracBits s.build w) := floatToFixed_eq ..

theorem doubleOperand_eq (w : Family) (s : State) (r : RegNum) :
    doubleOperand w s r = (binaryValue 11 52 (s.readReg r).toNat).map
      fun q => truncRat (q * 2 ^ fracBits s.build w) := floatToFixed_eq ..

/-- The computation that FROMF and FROMD run: of the scaled and truncated value v, if it is finite (40_conversion.md
R140, R141). -/
def RunsConversion (i : Instr) (s : State) (rd : RegNum) (w : Family) (v : Option Int) : Prop :=
  i.wellFormed = true ∧
    exec i s = runCommand i rd (single w (.ok (fromFloatResult w s.draws v))) (s.forConversion w v)

theorem runsConversion_fromf (w : Family) (rd rs1 : RegNum) (s : State) :
    RunsConversion (.fromf w rd rs1) s rd w (floatOperand w s rs1) := ⟨rfl, rfl⟩

theorem runsConversion_fromd (w : Family) (rd rs1 : RegNum) (s : State) :
    RunsConversion (.fromd w rd rs1) s rd w (doubleOperand w s rs1) := ⟨rfl, rfl⟩

/-- In range, the truncated value is the result and no draw is taken (40_conversion.md R140). -/
theorem RunsConversion.computesOne {i : Instr} {s : State} {rd : RegNum} {w : Family} {v : Int}
    (h : RunsConversion i s rd w (some v)) (hin : inRaw w v = true) : ComputesOne i s rd w v := by
  obtain ⟨hw, he⟩ := h
  simp only [fromFloatResult, State.forConversion, fixedInRange, hin, if_true, Option.getD_some] at he
  exact computesOne_of_single he hw

/-- Out of range, the draw is the result (40_conversion.md R140; assumption log 6). -/
theorem RunsConversion.draws {i : Instr} {s : State} {rd : RegNum} {w : Family} {v : Option Int}
    (h : RunsConversion i s rd w v) (hout : fixedInRange w v = false) :
    ∃ t, exec i s = .next t ∧ t.draws = s.draws + 1 ∧
      Completed s t rd 1 fun _ => result w (Config.fltcvtOor s.draws w).toInt := by
  obtain ⟨hw, he⟩ := h
  simp only [fromFloatResult, State.forConversion, hout, Bool.false_eq_true, if_false] at he
  exact ⟨_, he.trans (runCommand_ok _ _ _ _ hw), rfl,
    completed_of_run s s.takeDraw rd 1 _ [_] (.inr rfl) (by decide) rfl (by simp)⟩

/-- Settles O33: the operand of the conversion is the truncated value. -/
theorem fromFloatInRange : Obligations.FromFloatInRange := by
  intro w rd rs1 s q hin
  refine ⟨fun hq => ?_, fun hq => ?_⟩
  · have hrun := runsConversion_fromf w rd rs1 s
    rw [floatOperand_eq, hq, Option.map_some] at hrun
    exact hrun.computesOne hin
  · have hrun := runsConversion_fromd w rd rs1 s
    rw [doubleOperand_eq, hq, Option.map_some] at hrun
    exact hrun.computesOne hin

/-- A conversion is out of range when the float has no value or a value out of range (40_conversion.md R140). -/
theorem fixedInRange_map_eq_false {w : Family} {v : Option Rat} {f : Rat → Int}
    (h : ∀ q, v = some q → inRaw w (f q) = false) : fixedInRange w (v.map f) = false := by
  cases v with
  | none => rfl
  | some q => exact h q rfl

/-- Settles O34: the operand of the conversion is out of range, so its command takes a draw. -/
theorem fromFloatOutOfRange : Obligations.FromFloatOutOfRange := by
  intro w rd rs1 s
  refine ⟨fun hout => (runsConversion_fromf w rd rs1 s).draws ?_,
    fun hout => (runsConversion_fromd w rd rs1 s).draws ?_⟩
  · rw [floatOperand_eq]
    exact fixedInRange_map_eq_false hout
  · rw [doubleOperand_eq]
    exact fixedInRange_map_eq_false hout

/-! ## To floats -/

/-- What rounding a shift to nearest even can do: round down past at most half a unit, or up past at least half; from
half a unit, to an even result (40_conversion.md R142, R143). -/
theorem roundShift_cases (m : Nat) {k : Nat} (hk : 0 < k) :
    ((roundShift m k = m / 2 ^ k ∧ 2 * (m % 2 ^ k) ≤ 2 ^ k) ∨
      (roundShift m k = m / 2 ^ k + 1 ∧ 2 ^ k ≤ 2 * (m % 2 ^ k))) ∧
    (2 * (m % 2 ^ k) = 2 ^ k → roundShift m k % 2 = 0) := by
  have hpow : 2 ^ k = 2 * 2 ^ (k - 1) := (mul_pow_sub_one hk.ne' 2).symm
  simp only [roundShift]
  split
  next hup => exact ⟨.inr ⟨rfl, by omega⟩, fun htie => by omega⟩
  next hdown => exact ⟨.inl ⟨rfl, by omega⟩, fun htie => by omega⟩

/-- Rounding a shift to nearest even is off by at most half a unit, and even on a tie (40_conversion.md R142, R143). -/
theorem roundShift_nearest (m : Nat) {k : Nat} (hk : 0 < k) :
    |(roundShift m k * 2 ^ k : Int) - m| * 2 ≤ 2 ^ k ∧
      (|(roundShift m k * 2 ^ k : Int) - m| * 2 = 2 ^ k → roundShift m k % 2 = 0) := by
  have hm : (m / 2 ^ k : Nat) * 2 ^ k + (m % 2 ^ k : Nat) = (m : Int) := by exact_mod_cast Nat.div_add_mod' m (2 ^ k)
  have hrem : m % 2 ^ k < 2 ^ k := Nat.mod_lt m (Nat.two_pow_pos k)
  have hround := roundShift_cases m hk
  generalize m / 2 ^ k = q at hm hround
  generalize m % 2 ^ k = r at hm hrem hround
  obtain ⟨hround, htie⟩ := hround
  rcases hround with ⟨hr, hhalf⟩ | ⟨hr, hhalf⟩ <;> zify at hrem hhalf
  · have hdist : |(roundShift m k * 2 ^ k : Int) - m| = r := by
      rw [← hm, hr, sub_add_cancel_left, abs_neg, Nat.abs_cast]
    rw [hdist]
    exact ⟨by linarith, fun h => htie (by zify; linarith)⟩
  · have hdist : |(roundShift m k * 2 ^ k : Int) - m| = 2 ^ k - r := by
      rw [← hm, hr, Nat.cast_succ, abs_of_nonneg] <;> linarith
    rw [hdist]
    exact ⟨by linarith, fun h => htie (by zify; linarith)⟩

/-- The significand of the pattern that TOF and TOD write for a raw value of magnitude m, in units of the last place:
m shifted so that its highest bit is bit fb, rounded to nearest even (40_conversion.md R142, R143). -/
def significand (fb m : Nat) : Nat :=
  if m.log2 ≤ fb then m * 2 ^ (fb - m.log2) else roundShift m (m.log2 - fb)

theorem fixedToFloat_eq (eb fb F : Nat) {a : Int} (ha : a ≠ 0) :
    fixedToFloat eb fb F a = (if a < 0 then 2 ^ (fb + eb) else 0) +
      (a.natAbs.log2 + floatBias eb - F) * 2 ^ fb + (significand fb a.natAbs - 2 ^ fb) := if_neg ha

/-- Shifting a value that loses no bit is exact. -/
theorem significand_mul_of_dvd {fb m : Nat} (h : 2 ^ (m.log2 - fb) ∣ m) :
    significand fb m * 2 ^ m.log2 = m * 2 ^ fb := by
  unfold significand
  split
  next hle => rw [mul_assoc, ← pow_add, Nat.sub_add_cancel hle]
  next hlt =>
    have hmod : m % 2 ^ (m.log2 - fb) = 0 := Nat.mod_eq_zero_of_dvd h
    have hround : roundShift m (m.log2 - fb) = m / 2 ^ (m.log2 - fb) := by
      rcases roundShift_cases m (show 0 < m.log2 - fb by omega) with ⟨⟨e, -⟩ | ⟨-, hhalf⟩, -⟩
      · exact e
      · have := Nat.two_pow_pos (m.log2 - fb)
        omega
    have hsplit : 2 ^ m.log2 = 2 ^ (m.log2 - fb) * 2 ^ fb := by rw [← pow_add, Nat.sub_add_cancel (by omega)]
    rw [hround, hsplit, ← mul_assoc, Nat.div_mul_cancel h]

/-- A rounded significand is within half a unit in the last place, and even on a tie (40_conversion.md R142, R143). -/
theorem significand_nearest (fb m : Nat) :
    |(significand fb m * 2 ^ m.log2 : Int) - m * 2 ^ fb| * 2 ≤ 2 ^ m.log2 ∧
      (|(significand fb m * 2 ^ m.log2 : Int) - m * 2 ^ fb| * 2 = 2 ^ m.log2 → significand fb m % 2 = 0) := by
  by_cases hle : m.log2 ≤ fb
  · have hexact := significand_mul_of_dvd (fb := fb) (m := m) (by simp [Nat.sub_eq_zero_of_le hle])
    have hpos : (0 : Int) < 2 ^ m.log2 := by positivity
    zify at hexact
    rw [hexact, sub_self, abs_zero, zero_mul]
    exact ⟨hpos.le, fun h => absurd h hpos.ne⟩
  · have hsplit : (2 : Int) ^ m.log2 = 2 ^ (m.log2 - fb) * 2 ^ fb := by rw [← pow_add, Nat.sub_add_cancel (by omega)]
    have hscale (r : Int) : |r * 2 ^ m.log2 - m * 2 ^ fb| * 2 = |r * 2 ^ (m.log2 - fb) - m| * 2 * 2 ^ fb := by
      rw [hsplit, ← mul_assoc, ← sub_mul, abs_mul, abs_of_pos (by positivity : (0 : Int) < 2 ^ fb)]
      ring
    obtain ⟨hhalf, htie⟩ := roundShift_nearest m (show 0 < m.log2 - fb by omega)
    rw [hscale, hsplit, significand, if_neg hle]
    exact ⟨mul_le_mul_of_nonneg_right hhalf (by positivity),
      fun h => htie (mul_right_cancel₀ (by positivity) h)⟩

/-- A rounded significand has its highest bit at fb, or is the next power of two (40_conversion.md R142, R143). -/
theorem significand_bounds (fb : Nat) {m : Nat} (hm : m ≠ 0) :
    2 ^ fb ≤ significand fb m ∧ significand fb m ≤ 2 ^ (fb + 1) := by
  have hlo : (2 ^ m.log2 : Int) ≤ m := by exact_mod_cast Nat.log2_self_le hm
  have hhi : (m : Int) < 2 * 2 ^ m.log2 := by exact_mod_cast pow_succ' 2 m.log2 ▸ Nat.lt_log2_self
  have hpos : (0 : Int) < 2 ^ m.log2 := by positivity
  have hscale : (0 : Int) < 2 ^ fb := by positivity
  have hnear := (significand_nearest fb m).1
  have hbelow := neg_abs_le ((significand fb m * 2 ^ m.log2 : Int) - m * 2 ^ fb)
  have habove := le_abs_self ((significand fb m * 2 ^ m.log2 : Int) - m * 2 ^ fb)
  zify
  rw [pow_succ']
  generalize |(significand fb m * 2 ^ m.log2 : Int) - m * 2 ^ fb| = err at *
  generalize (2 : Int) ^ m.log2 = d at *
  generalize (2 : Int) ^ fb = u at *
  -- The significand times d is within d / 2 of m * u, and m lies between d and 2 * d.
  constructor
  · by_contra hlt
    nlinarith
  · by_contra hlt
    nlinarith

/-- The factor of the sign bit (40_conversion.md R139). -/
def signFactor (neg : Prop) [Decidable neg] : Rat := if neg then -1 else 1

@[simp] theorem abs_signFactor (neg : Prop) [Decidable neg] : |signFactor neg| = 1 := by
  unfold signFactor
  split <;> simp

theorem signFactor_mul_natAbs (a : Int) : signFactor (a < 0) * a.natAbs = a := by
  rw [signFactor, Nat.cast_natAbs]
  split
  next h => rw [abs_of_neg h, Int.cast_neg, neg_one_mul, neg_neg]
  next h => rw [abs_of_nonneg (not_lt.mp h), one_mul]

/-- The value of a normal pattern: sign bit, exponent field x and fraction field m (40_conversion.md R139). -/
theorem binaryValue_normal {eb fb x m : Nat} (neg : Prop) [Decidable neg] (hx : 1 ≤ x) (hmax : x < 2 ^ eb - 1)
    (hm : m < 2 ^ fb) :
    binaryValue eb fb ((if neg then 2 ^ (fb + eb) else 0) + x * 2 ^ fb + m) =
      some (signFactor neg * (((2 ^ fb + m) * 2 ^ x : Nat) / (2 ^ (floatBias eb + fb) : Nat))) := by
  have hsplit : (if neg then 2 ^ (fb + eb) else 0) + x * 2 ^ fb + m =
      2 ^ fb * (2 ^ eb * (if neg then 1 else 0) + x) + m := by
    split <;> ring
  have hfrac : ((if neg then 2 ^ (fb + eb) else 0) + x * 2 ^ fb + m) % 2 ^ fb = m := by
    rw [hsplit, Nat.mul_add_mod, Nat.mod_eq_of_lt hm]
  have hhigh : ((if neg then 2 ^ (fb + eb) else 0) + x * 2 ^ fb + m) / 2 ^ fb =
      2 ^ eb * (if neg then 1 else 0) + x := by
    rw [hsplit, Nat.mul_add_div (Nat.two_pow_pos fb), Nat.div_eq_of_lt hm, Nat.add_zero]
  have hexp : (2 ^ eb * (if neg then 1 else 0) + x) % 2 ^ eb = x := by
    rw [Nat.mul_add_mod, Nat.mod_eq_of_lt (by omega)]
  have hsign : ((if neg then 2 ^ (fb + eb) else 0) + x * 2 ^ fb + m) / 2 ^ (fb + eb) = if neg then 1 else 0 := by
    rw [Nat.pow_add, ← Nat.div_div_eq_div_mul, ← Nat.pow_add, hhigh, Nat.mul_add_div (Nat.two_pow_pos eb),
      Nat.div_eq_of_lt (by omega), Nat.add_zero]
  simp only [binaryValue, hsign, hhigh, hexp, hfrac, floatBias, max_eq_left hx, if_neg hmax.ne,
    if_neg (show ¬ x = 0 by omega), signFactor]
  split <;> simp

/-- A significand that was rounded up to the next power of two carries into the exponent field (40_conversion.md R142,
R143). -/
theorem binaryValue_of_significand {eb fb x sig : Nat} (neg : Prop) [Decidable neg] (hx : 1 ≤ x)
    (hmax : x + 1 < 2 ^ eb - 1) (hlo : 2 ^ fb ≤ sig) (hhi : sig ≤ 2 ^ (fb + 1)) :
    binaryValue eb fb ((if neg then 2 ^ (fb + eb) else 0) + x * 2 ^ fb + (sig - 2 ^ fb)) =
      some (signFactor neg * ((sig * 2 ^ x : Nat) / (2 ^ (floatBias eb + fb) : Nat))) := by
  rcases hhi.lt_or_eq with hlt | rfl
  · rw [binaryValue_normal neg hx (by omega) (by omega), Nat.add_sub_cancel' hlo]
  · have hcarry : x * 2 ^ fb + (2 ^ (fb + 1) - 2 ^ fb) = (x + 1) * 2 ^ fb + 0 := by
      rw [Nat.pow_succ, Nat.add_one_mul]
      omega
    rw [Nat.add_assoc, hcarry, ← Nat.add_assoc, binaryValue_normal neg (by omega) hmax (Nat.two_pow_pos fb),
      Nat.add_zero, Nat.pow_succ', Nat.pow_succ', mul_left_comm, mul_assoc]

/-- The magnitude m rounded to the nearest significand of fb + 1 bits (40_conversion.md R142, R143). -/
def roundedMagnitude (fb m : Nat) : Rat := (significand fb m * 2 ^ m.log2 : Nat) / 2 ^ fb

theorem roundedMagnitude_of_dvd {fb m : Nat} (h : 2 ^ (m.log2 - fb) ∣ m) : roundedMagnitude fb m = m := by
  rw [roundedMagnitude, significand_mul_of_dvd h, Nat.cast_mul, Nat.cast_pow, Nat.cast_ofNat,
    mul_div_cancel_right₀ _ (by positivity)]

/-- Rounding is within half a unit in the last place, and to an even significand on a tie (40_conversion.md R142,
R143). -/
theorem roundedMagnitude_nearest (fb m : Nat) :
    |roundedMagnitude fb m - m| * 2 ^ (fb + 1) ≤ 2 ^ m.log2 ∧
      (|roundedMagnitude fb m - m| * 2 ^ (fb + 1) = 2 ^ m.log2 → significand fb m % 2 = 0) := by
  have hdist : |roundedMagnitude fb m - m| * 2 ^ (fb + 1) =
      (|(significand fb m * 2 ^ m.log2 : Int) - m * 2 ^ fb| * 2 : Int) := by
    have hscale : (0 : Rat) < 2 ^ fb := by positivity
    have hdiff : roundedMagnitude fb m - m = ((significand fb m * 2 ^ m.log2 : Nat) - m * 2 ^ fb) / 2 ^ fb := by
      rw [sub_div, mul_div_cancel_right₀ _ hscale.ne', roundedMagnitude]
    rw [hdiff, abs_div, abs_of_pos hscale, pow_succ, ← mul_assoc, div_mul_cancel₀ _ hscale.ne']
    push_cast
    rfl
  rw [hdist]
  exact_mod_cast significand_nearest fb m

/-- The exponent of the pattern of `a / 2^F` is that of a normal pattern, whether the significand is rounded up to the
next power of two or not (40_conversion.md R142, R143). -/
structure NormalRange (eb F : Nat) (a : Int) : Prop where
  least : F < floatBias eb
  greatest : a.natAbs.log2 + floatBias eb + 1 < 2 ^ eb - 1

section ToFloat
variable {eb F : Nat} {a : Int}

/-- The value of the pattern that TOF and TOD write (40_conversion.md R142, R143). -/
theorem binaryValue_fixedToFloat (h : NormalRange eb F a) (fb : Nat) (ha : a ≠ 0) :
    binaryValue eb fb (fixedToFloat eb fb F a) =
      some (signFactor (a < 0) * roundedMagnitude fb a.natAbs / 2 ^ F) := by
  obtain ⟨hleast, hgreatest⟩ := h
  obtain ⟨hlo, hhi⟩ := significand_bounds fb (Int.natAbs_ne_zero.mpr ha)
  have hpow : (2 : Rat) ^ (a.natAbs.log2 + floatBias eb - F) * 2 ^ F = 2 ^ a.natAbs.log2 * 2 ^ floatBias eb := by
    rw [← pow_add, ← pow_add, Nat.sub_add_cancel (by omega)]
  rw [fixedToFloat_eq eb fb F ha, binaryValue_of_significand _ (by omega) (by omega) hlo hhi, mul_div_assoc,
    roundedMagnitude, div_div]
  congr 2
  rw [div_eq_div_iff (by positivity) (by positivity)]
  push_cast
  rw [pow_add 2 (floatBias eb) fb]
  linear_combination (significand fb a.natAbs : Rat) * 2 ^ fb * hpow

/-- A value whose bits below the significand's last place are 0 is converted exactly (40_conversion.md R142, R143). -/
theorem binaryValue_fixedToFloat_of_dvd (h : NormalRange eb F a) {fb : Nat}
    (hdvd : 2 ^ (a.natAbs.log2 - fb) ∣ a.natAbs) :
    binaryValue eb fb (fixedToFloat eb fb F a) = some ((a : Rat) / 2 ^ F) := by
  by_cases ha : a = 0
  · have hexp : ¬ 0 = 2 ^ eb - 1 := by
      have := h.greatest
      omega
    simp [ha, fixedToFloat, binaryValue, hexp]
  · rw [binaryValue_fixedToFloat h fb ha, roundedMagnitude_of_dvd hdvd, signFactor_mul_natAbs]

/-- A value of at most fb + 1 bits is converted exactly (40_conversion.md R142, R143). -/
theorem binaryValue_fixedToFloat_of_lt (h : NormalRange eb F a) {fb : Nat} (hlt : a.natAbs < 2 ^ (fb + 1)) :
    binaryValue eb fb (fixedToFloat eb fb F a) = some ((a : Rat) / 2 ^ F) := by
  refine binaryValue_fixedToFloat_of_dvd h ?_
  have hlog : a.natAbs.log2 ≤ fb := by
    by_cases ha : a.natAbs = 0
    · simp [ha]
    · exact Nat.le_of_lt_succ ((Nat.log2_lt ha).mpr hlt)
  rw [Nat.sub_eq_zero_of_le hlog, pow_zero]
  exact one_dvd _

/-- The pattern has the parity of the significand (40_conversion.md R142, R143). -/
theorem fixedToFloat_even {fb : Nat} (hfb : 0 < fb) (ha : a ≠ 0) (heven : significand fb a.natAbs % 2 = 0) :
    fixedToFloat eb fb F a % 2 = 0 := by
  have hunit : 2 ∣ 2 ^ fb := dvd_pow_self 2 hfb.ne'
  rw [fixedToFloat_eq eb fb F ha, ← Nat.dvd_iff_mod_eq_zero]
  refine dvd_add (dvd_add ?_ (hunit.mul_left _)) (Nat.dvd_sub (Nat.dvd_of_mod_eq_zero heven) hunit)
  split
  · exact dvd_pow_self 2 (by omega)
  · exact dvd_zero 2

theorem fixedToFloat_roundsToNearest (h : NormalRange eb F a) {fb : Nat} (hfb : 0 < fb) :
    RoundsToNearest eb fb F a (fixedToFloat eb fb F a) := by
  refine ⟨fun ha => if_pos ha, fun ha => ⟨_, binaryValue_fixedToFloat h fb ha, ?_⟩⟩
  have hdist : |signFactor (a < 0) * roundedMagnitude fb a.natAbs / 2 ^ F * 2 ^ F - a| =
      |roundedMagnitude fb a.natAbs - a.natAbs| := by
    have hfactor : signFactor (a < 0) * roundedMagnitude fb a.natAbs - a =
        signFactor (a < 0) * (roundedMagnitude fb a.natAbs - a.natAbs) := by rw [mul_sub, signFactor_mul_natAbs]
    rw [div_mul_cancel₀ _ (by positivity), hfactor, abs_mul, abs_signFactor, one_mul]
  obtain ⟨hhalf, htie⟩ := roundedMagnitude_nearest fb a.natAbs
  rw [hdist]
  exact ⟨hhalf, fun he => fixedToFloat_even hfb ha (htie he)⟩

/-- The pattern fits in the format's bits (40_conversion.md R142, R143). -/
theorem fixedToFloat_lt (h : NormalRange eb F a) (fb : Nat) : fixedToFloat eb fb F a < 2 ^ (fb + eb + 1) := by
  by_cases ha : a = 0
  · rw [fixedToFloat, if_pos ha]
    positivity
  · obtain ⟨hlo, hhi⟩ := significand_bounds fb (Int.natAbs_ne_zero.mpr ha)
    obtain ⟨hleast, hgreatest⟩ := h
    have hexp : (a.natAbs.log2 + floatBias eb - F + 2) * 2 ^ fb ≤ 2 ^ eb * 2 ^ fb :=
      Nat.mul_le_mul_right _ (by omega)
    have hsign : (if a < 0 then 2 ^ (fb + eb) else 0) ≤ 2 ^ (fb + eb) := by
      split
      · exact le_rfl
      · exact Nat.zero_le _
    rw [fixedToFloat_eq eb fb F ha, Nat.pow_succ 2 (fb + eb)]
    rw [← Nat.pow_add, Nat.add_comm eb fb, Nat.add_mul] at hexp
    have hpos := Nat.two_pow_pos fb
    rw [Nat.pow_succ] at hhi
    omega

end ToFloat

theorem natAbs_opnd_lt (w : Family) (s : State) (r : RegNum) : (opnd w s r).natAbs < 2 ^ 64 := by
  obtain ⟨hmin, hmax⟩ := opnd_range w s r
  cases w <;>
  · simp only [minRaw, maxRaw, Family.bits] at hmin hmax
    omega

theorem fracBits_le (b : Build) (w : Family) : fracBits b w ≤ 32 := by
  cases w with
  | q16 => exact (by decide : 16 ≤ 32)
  | q32 => cases hb : b.frac64 <;> simp [fracBits, Frac64.bits, hb]

/-- The exponents of the operands are in the range of a format whose bias is above FRAC64 and 64 below its greatest
exponent (40_conversion.md R142, R143). -/
theorem normalRange_opnd {eb : Nat} (hleast : 32 < floatBias eb) (hgreatest : 64 + floatBias eb < 2 ^ eb - 1)
    (w : Family) (s : State) (r : RegNum) : NormalRange eb (fracBits s.build w) (opnd w s r) where
  least := (fracBits_le s.build w).trans_lt hleast
  greatest := by
    by_cases ha : (opnd w s r).natAbs = 0
    · rw [ha, Nat.log2_zero]
      omega
    · have hlog := (Nat.log2_lt ha).mpr (natAbs_opnd_lt w s r)
      omega

theorem normalRange_tof (w : Family) (s : State) (r : RegNum) : NormalRange 8 (fracBits s.build w) (opnd w s r) :=
  normalRange_opnd (by decide) (by decide) w s r

theorem normalRange_tod (w : Family) (s : State) (r : RegNum) : NormalRange 11 (fracBits s.build w) (opnd w s r) :=
  normalRange_opnd (by decide) (by decide) w s r

theorem computes_tof (w : Family) (rd rs1 : RegNum) (s : State) :
    Computes (.tof w rd rs1) s rd 1 fun _ =>
      (BitVec.ofNat 32 (fixedToFloat 8 23 (fracBits s.build w) (opnd w s rs1))).setWidth 64 :=
  computes_of_run _ s rd 1 _ [_] rfl rfl (by decide) rfl (by simp)

theorem computes_tod (w : Family) (rd rs1 : RegNum) (s : State) :
    Computes (.tod w rd rs1) s rd 1 fun _ =>
      BitVec.ofNat 64 (fixedToFloat 11 52 (fracBits s.build w) (opnd w s rs1)) :=
  computes_of_run _ s rd 1 _ [_] rfl rfl (by decide) rfl (by simp)

theorem toNat_tofPattern (w : Family) (s : State) (r : RegNum) :
    (BitVec.ofNat 32 (fixedToFloat 8 23 (fracBits s.build w) (opnd w s r))).toNat =
      fixedToFloat 8 23 (fracBits s.build w) (opnd w s r) := by
  rw [BitVec.toNat_ofNat, Nat.mod_eq_of_lt (fixedToFloat_lt (normalRange_tof w s r) 23)]

theorem toNat_todPattern (w : Family) (s : State) (r : RegNum) :
    (BitVec.ofNat 64 (fixedToFloat 11 52 (fracBits s.build w) (opnd w s r))).toNat =
      fixedToFloat 11 52 (fracBits s.build w) (opnd w s r) := by
  rw [BitVec.toNat_ofNat, Nat.mod_eq_of_lt (fixedToFloat_lt (normalRange_tod w s r) 52)]

/-- Settles O35: the patterns fit their widths, round to nearest even, and lose no bit of a value that fits the
significand. -/
theorem toFloatResults : Obligations.ToFloatResults := by
  refine fun w rd rs1 s => ⟨⟨_, computes_tof w rd rs1 s, ?_⟩, ⟨_, computes_tod w rd rs1 s, ?_⟩⟩
  · rw [toNat_tofPattern]
    exact ⟨fixedToFloat_roundsToNearest (normalRange_tof w s rs1) (by decide),
      binaryValue_fixedToFloat_of_lt (normalRange_tof w s rs1)⟩
  · rw [toNat_todPattern]
    exact ⟨fixedToFloat_roundsToNearest (normalRange_tod w s rs1) (by decide),
      binaryValue_fixedToFloat_of_lt (normalRange_tod w s rs1)⟩

/-! ## The round trip -/

theorem abs_mul_two_pow (q : Rat) (k : Nat) : |q * 2 ^ k| = |q| * 2 ^ k := by
  rw [abs_mul, abs_of_pos (show (0 : Rat) < 2 ^ k by positivity)]

/-- The magnitude of a finite float is a significand of fb + 1 bits times a power of two (40_conversion.md R139). -/
theorem abs_binaryValue {eb fb p : Nat} {q : Rat} (h : binaryValue eb fb p = some q) :
    ∃ n x : Nat, n < 2 ^ (fb + 1) ∧ |q| = (n * 2 ^ x : Nat) / 2 ^ (floatBias eb + fb) := by
  have hfrac : p % 2 ^ fb < 2 ^ fb := Nat.mod_lt p (Nat.two_pow_pos fb)
  have hpow : 2 ^ (fb + 1) = 2 * 2 ^ fb := Nat.pow_succ'
  simp only [binaryValue] at h
  split at h
  next => cases h
  next =>
    refine ⟨if p / 2 ^ fb % 2 ^ eb = 0 then p % 2 ^ fb else 2 ^ fb + p % 2 ^ fb, max (p / 2 ^ fb % 2 ^ eb) 1,
      ?_, ?_⟩
    · split <;> omega
    · rw [← Option.some.inj h, apply_ite abs, abs_neg, ite_self, abs_of_nonneg (by positivity), floatBias,
        Nat.cast_pow, Nat.cast_ofNat]

/-- A binary32 value of 2^8 or more has no bit below 2^-16: scaled by 2^16 it is a significand of 24 bits times a power
of two (40_conversion.md R144). -/
theorem scaled_of_large {p : Nat} {v : Rat} (h : binaryValue 8 23 p = some v) (hlarge : 2 ^ 8 ≤ |v|) :
    ∃ n k : Nat, n < 2 ^ 24 ∧ |v| * 2 ^ 16 = (n * 2 ^ k : Nat) := by
  obtain ⟨n, x, hn, habs⟩ := abs_binaryValue h
  have hx : 134 ≤ x := by
    by_contra hlt
    have hpow : 2 ^ x ≤ 2 ^ 133 := Nat.pow_le_pow_right (by decide) (by omega)
    have hsmall : n * 2 ^ x < 2 ^ 24 * 2 ^ 133 := Nat.mul_lt_mul_of_lt_of_le hn hpow (by decide)
    rw [habs, le_div_iff₀ (by positivity)] at hlarge
    have hge : 2 ^ 8 * 2 ^ (floatBias 8 + 23) ≤ n * 2 ^ x := by exact_mod_cast hlarge
    have hbias : floatBias 8 + 23 = 150 := rfl
    rw [hbias] at hge
    omega
  refine ⟨n, x - 134, hn, ?_⟩
  obtain ⟨k, rfl⟩ := Nat.exists_eq_add_of_le hx
  rw [habs, Nat.add_sub_cancel_left, show floatBias 8 + 23 = 134 + 16 from rfl, pow_add 2 134 16,
    div_mul_eq_mul_div, mul_div_mul_right _ _ (by norm_num), div_eq_iff (by positivity), pow_add 2 134 k]
  push_cast
  ring

/-- A significand of fb + 1 bits times a power of two has no bit below the significand's last place. -/
theorem two_pow_log2_sub_dvd {fb n k : Nat} (hn : n < 2 ^ (fb + 1)) :
    2 ^ ((n * 2 ^ k).log2 - fb) ∣ n * 2 ^ k := by
  by_cases hz : n * 2 ^ k = 0
  · rw [hz]
    exact dvd_zero _
  · have hlog : (n * 2 ^ k).log2 < fb + 1 + k := by
      rw [Nat.log2_lt hz, pow_add]
      exact Nat.mul_lt_mul_of_pos_right hn (Nat.two_pow_pos k)
    exact (Nat.pow_dvd_pow 2 (by omega)).mul_left n

/-- A float in the representable range of family 32 is in range when scaled and truncated (40_conversion.md R140,
R144). -/
theorem truncRat_inRaw {v : Rat} (hlo : -2 ^ 15 ≤ v) (hhi : v < 2 ^ 15) :
    inRaw .q16 (truncRat (v * 2 ^ 16)) = true := by
  have hmin : -2 ^ 31 ≤ truncRat (v * 2 ^ 16) := le_truncRat (by push_cast; linarith)
  have hmax : truncRat (v * 2 ^ 16) < 2 ^ 31 := truncRat_lt (by decide) (by push_cast; linarith)
  exact Bool.and_eq_true_iff.mpr ⟨decide_eq_true hmin, decide_eq_true (Int.le_sub_one_of_lt hmax)⟩

/-- FROMF in family 32 of a float in the representable range leaves its truncated value (40_conversion.md R140). -/
theorem opnd_of_fromf {rd rs1 : RegNum} {s t : State} {v : Rat}
    (hv : binaryValue 8 23 ((s.readReg rs1).extractLsb' 0 32).toNat = some v) (hlo : -2 ^ 15 ≤ v) (hhi : v < 2 ^ 15)
    (ht : exec (.fromf .q16 rd rs1) s = .next t) : opnd .q16 t rd = truncRat (v * 2 ^ 16) := by
  have hin := truncRat_inRaw hlo hhi
  rw [opnd_of_computesOne ((fromFloatInRange .q16 rd rs1 s v hin).1 hv) ht]
  obtain ⟨hmin, hmax⟩ := Bool.and_eq_true_iff.mp hin
  exact wrap_of_inRange (of_decide_eq_true hmin) (of_decide_eq_true hmax)

theorem extractLsb_setWidth (p : Word32) : (p.setWidth 64).extractLsb' 0 32 = p := by
  apply BitVec.eq_of_toNat_eq
  simpa using p.isLt

/-- TOF writes the nearest pattern in the low half of its register (40_conversion.md R142). -/
theorem toNat_of_tof {w : Family} {rd rs1 : RegNum} {s t : State} (ht : exec (.tof w rd rs1) s = .next t) :
    ((t.readReg rd).extractLsb' 0 32).toNat = fixedToFloat 8 23 (fracBits s.build w) (opnd w s rs1) := by
  rw [readReg_of_computes (computes_tof w rd rs1 s) ht, extractLsb_setWidth, toNat_tofPattern]

/-- From 2^8 on, FROMF truncates nothing, and what it gives has a significand of 24 bits (40_conversion.md R144). -/
theorem truncRat_of_large {p : Nat} {v : Rat} (h : binaryValue 8 23 p = some v) (hlarge : 2 ^ 8 ≤ |v|) :
    (truncRat (v * 2 ^ 16) : Rat) = v * 2 ^ 16 ∧
      2 ^ ((truncRat (v * 2 ^ 16)).natAbs.log2 - 23) ∣ (truncRat (v * 2 ^ 16)).natAbs := by
  obtain ⟨n, k, hn, hscaled⟩ := scaled_of_large h hlarge
  rw [← abs_mul_two_pow] at hscaled
  obtain ⟨hexact, habs⟩ := truncRat_of_abs_eq hscaled
  rw [habs]
  exact ⟨hexact, two_pow_log2_sub_dvd hn⟩

/-- Settles O36: below 2^8 FROMF gives a value of at most 24 bits, and from 2^8 on the value itself, of a significand
of 24 bits; TOF loses no bit of either. -/
theorem floatRoundTrip : Obligations.FloatRoundTrip := by
  intro rd rs1 rd2 s t u v hv hlo hhi ht hu
  have hraw : opnd .q16 t rd = truncRat (v * 2 ^ 16) := opnd_of_fromf hv hlo hhi ht
  have hrange : NormalRange 8 16 (truncRat (v * 2 ^ 16)) := hraw ▸ normalRange_tof .q16 t rd
  have hpattern : ((u.readReg rd2).extractLsb' 0 32).toNat = fixedToFloat 8 23 16 (truncRat (v * 2 ^ 16)) := by
    rw [toNat_of_tof hu, hraw]
    rfl
  have hback : binaryValue 8 23 (fixedToFloat 8 23 16 (truncRat (v * 2 ^ 16))) =
      some (truncRat (v * 2 ^ 16) / 2 ^ 16 : Rat) := by
    rcases le_or_gt (2 ^ 8) |v| with hlarge | hsmall
    · exact binaryValue_fixedToFloat_of_dvd hrange (truncRat_of_large hv hlarge).2
    · refine binaryValue_fixedToFloat_of_lt hrange (natAbs_truncRat_lt ?_)
      rw [abs_mul_two_pow]
      push_cast
      linarith
  refine ⟨_, hpattern ▸ hback, ?_, fun hlarge => ?_⟩
  · have hscale : |v - truncRat (v * 2 ^ 16) / 2 ^ 16| * 2 ^ 16 = |v * 2 ^ 16 - truncRat (v * 2 ^ 16)| := by
      rw [← abs_mul_two_pow, sub_mul, div_mul_cancel₀ _ (by positivity)]
    rw [hscale]
    exact abs_sub_truncRat_lt _
  · rw [(truncRat_of_large hv hlarge).1, mul_div_cancel_right₀ _ (by positivity)]

end Sys2Proof.Machine
end

section
/-! PROOFS for 41_scalar_arith.md. The division commands and RATIO check each component's denominator before they
divide, so they are all runs of one checked computation: either every component answers, with 0 outside the domain
(60_exceptions.md R344), or the lowest component outside the domain faults (R350). -/

namespace Sys2Proof.Machine

/-! ## Commands with a domain condition -/

/-- The result `v k` of component k, behind a domain check of the operand `y k`, which is outside the domain where
`out k` holds (60_exceptions.md R343, R344). -/
def checkedComponent (b : Build) (arg : BitVec 2) (out : Nat → Prop) [DecidablePred out] (y v : Nat → Int) (k : Nat) :
    Except DomainError Int :=
  if out k then domainCheck b arg k (y k) else .ok (v k)

section Checked
variable {b : Build} {arg : BitVec 2} {out : Nat → Prop} [DecidablePred out] {y v : Nat → Int} {k : Nat}

theorem checkedComponent_inside (h : ¬ out k) : checkedComponent b arg out y v k = .ok (v k) := if_neg h

/-- In a release build every component answers, with 0 outside the domain; in a strict build those inside it do
(60_exceptions.md R344). -/
theorem checkedComponent_ok (h : b.strict = false ∨ ¬ out k) :
    checkedComponent b arg out y v k = .ok (if out k then 0 else v k) := by
  by_cases hout : out k
  · have hrelease : b.strict = false := h.resolve_right (not_not_intro hout)
    rw [checkedComponent, if_pos hout, if_pos hout, domainCheck_release _ _ _ _ hrelease]
  · rw [checkedComponent_inside hout, if_neg hout]

/-- In a strict build a component outside the domain faults (60_exceptions.md R343). -/
theorem checkedComponent_error (hstrict : b.strict = true) (hout : out k) :
    checkedComponent b arg out y v k = .error ⟨arg, BitVec.ofNat 2 k, y k⟩ := by
  rw [checkedComponent, if_pos hout, domainCheck_strict _ _ _ _ hstrict]

end Checked

/-- The command runs the checked computation on n components and writes their results from rd on
(44_vector.md R300). -/
def RunsChecked (i : Instr) (s : State) (rd : RegNum) (w : Family) (n : Nat) (arg : BitVec 2) (out : Nat → Prop)
    [DecidablePred out] (y v : Nat → Int) : Prop :=
  exec i s = runCommand i rd (componentwise w n (checkedComponent s.build arg out y v)) s

section RunsChecked
variable {i : Instr} {s : State} {rd : RegNum} {w : Family} {n : Nat} {arg : BitVec 2} {out : Nat → Prop}
  [DecidablePred out] {y v : Nat → Int}

/-- It completes in a release build, and in a strict build when no component is outside the domain
(60_exceptions.md R344). -/
theorem RunsChecked.computes (h : RunsChecked i s rd w n arg out y v) (hw : i.wellFormed = true) (hn : n ≤ 32)
    (hdom : s.build.strict = false ∨ ∀ k < n, ¬ out k) :
    Computes i s rd n fun k => result w (if out k then 0 else v k) := by
  have hok : componentwise w n (checkedComponent s.build arg out y v) =
      .ok ((List.range n).map fun k => result w (if out k then 0 else v k)) :=
    componentwise_ok w n _ _ fun k hk => checkedComponent_ok (hdom.imp_right fun hin => hin k hk)
  rw [RunsChecked, hok] at h
  exact computes_of_run i s rd n _ _ h hw hn (by simp) (by simp)

/-- It faults at the lowest component outside the domain in a strict build (60_exceptions.md R343, R350). -/
theorem RunsChecked.traps (h : RunsChecked i s rd w n arg out y v) (hw : i.wellFormed = true)
    (hstrict : s.build.strict = true) {k : Nat} (hk : k < n) (hout : out k) (hlowest : ∀ l < k, ¬ out l) :
    TrapsDomain i s arg (BitVec.ofNat 2 k) (y k) := by
  refine traps_of_run i s rd ⟨arg, BitVec.ofNat 2 k, y k⟩ ?_ hw
  rw [h, componentwise_error w n k _ _ hk (checkedComponent_error hstrict hout) fun l hl =>
    ⟨v l, checkedComponent_inside (hlowest l hl)⟩]

end RunsChecked

/-- A command with one component is a command with a single result. -/
theorem componentwise_one (w : Family) (f : Nat → Except DomainError Int) : componentwise w 1 f = single w (f 0) := by
  unfold componentwise single componentsFrom
  cases f 0 <;> rfl

theorem vlen_count_le (vl : VLen) : vl.count ≤ 32 := (vlen_le vl).trans (by decide)

/-! ## Addition, subtraction and multiplication -/

/-- Settles O37: the three have no domain condition, and `addW`, `subW` and `mulW` are the values of their rules. -/
theorem addSubMulResults : Obligations.AddSubMulResults := fun _ vl _ _ _ _ _ =>
  ⟨fun hw => computes_of_components rfl hw (vlen_count_le vl),
    fun hw => computes_of_components rfl hw (vlen_count_le vl),
    fun hw => computes_of_components rfl hw (vlen_count_le vl)⟩

/-! ## Division -/

theorem runsChecked_divPrecise (w : Family) (vl : VLen) (sb : Bool) (rd rs1 rs2 : RegNum) (s : State) :
    RunsChecked (.divPrecise w vl sb rd rs1 rs2) s rd w vl.count 2
      (fun k => opnd w s (bcomp sb rs2 k) = 0 ∨ opnd w s (bcomp sb rs2 k) = minRaw w)
      (fun k => opnd w s (bcomp sb rs2 k))
      fun k => wrap w.bits (truncDiv (shl (opnd w s (comp rs1 k)) (fracBits s.build w)) (opnd w s (bcomp sb rs2 k))) :=
  rfl

theorem runsChecked_mod (w : Family) (vl : VLen) (sb : Bool) (rd rs1 rs2 : RegNum) (s : State) :
    RunsChecked (.mod w vl sb rd rs1 rs2) s rd w vl.count 2 (fun k => opnd w s (bcomp sb rs2 k) = 0)
      (fun k => opnd w s (bcomp sb rs2 k))
      fun k => opnd w s (comp rs1 k) - opnd w s (bcomp sb rs2 k) *
        truncDiv (opnd w s (comp rs1 k)) (opnd w s (bcomp sb rs2 k)) :=
  rfl

/-- RATIO is a checked command of one component (41_scalar_arith.md R184). -/
theorem runsChecked_ratio (w : Family) (rd rs1 rs2 : RegNum) (s : State) :
    RunsChecked (.ratio w rd rs1 rs2) s rd w 1 2 (fun _ => opnd w s rs2 = 0) (fun _ => opnd w s rs2)
      fun _ => wrap w.bits (truncDiv (shl (opnd w s rs1) (fracBits s.build w)) (opnd w s rs2)) := by
  rw [RunsChecked, componentwise_one]
  rfl

/-- The domain check of DivApprox comes first, and inside the domain the table answers for the denominator's absolute
value (41_scalar_arith.md R174). -/
theorem divApprox_eq (b : Build) (w : Family) (t : Tier) (k : Nat) (x y : Int) :
    divApprox b w t k x y = if y = 0 ∨ y = minRaw w then domainCheck b 2 k y
      else .ok (if 0 < y then cfgDivPos b w t x y else wrap w.bits (-cfgDivPos b w t x (-y))) := by
  rw [apply_ite Except.ok]
  rfl

theorem exec_divOf (t : Tier) (w : Family) (vl : VLen) (sb : Bool) (rd rs1 rs2 : RegNum) (s : State) :
    exec (divOf t w vl sb rd rs1 rs2) s = runCommand (divOf t w vl sb rd rs1 rs2) rd
      (componentwise w vl.count fun k =>
        divApprox s.build w t k (opnd w s (comp rs1 k)) (opnd w s (bcomp sb rs2 k))) s := by
  cases t <;> rfl

theorem runsChecked_divOf (t : Tier) (w : Family) (vl : VLen) (sb : Bool) (rd rs1 rs2 : RegNum) (s : State) :
    RunsChecked (divOf t w vl sb rd rs1 rs2) s rd w vl.count 2
      (fun k => opnd w s (bcomp sb rs2 k) = 0 ∨ opnd w s (bcomp sb rs2 k) = minRaw w)
      (fun k => opnd w s (bcomp sb rs2 k))
      fun k => if 0 < opnd w s (bcomp sb rs2 k) then
          cfgDivPos s.build w t (opnd w s (comp rs1 k)) (opnd w s (bcomp sb rs2 k))
        else wrap w.bits (-cfgDivPos s.build w t (opnd w s (comp rs1 k)) (-opnd w s (bcomp sb rs2 k))) := by
  rw [RunsChecked, exec_divOf]
  simp only [divApprox_eq]
  rfl

/-- Settles O38: the three are checked commands. -/
theorem exactQuotientResults : Obligations.ExactQuotientResults := by
  intro w vl sb rd rs1 rs2 s
  refine ⟨fun hw hdom => ?_, fun hw hdom => ?_, fun hdom => ?_⟩
  · exact (runsChecked_divPrecise w vl sb rd rs1 rs2 s).computes hw (vlen_count_le vl)
      (hdom.imp_right fun hin k hk => not_or.mpr (hin k hk))
  · exact (runsChecked_mod w vl sb rd rs1 rs2 s).computes hw (vlen_count_le vl) hdom
  · exact (runsChecked_ratio w rd rs1 rs2 s).computes rfl (by decide) (hdom.imp_right fun hin _ _ => hin)

/-- Settles O39: DIV in each tier is a checked command. -/
theorem divTierResults : Obligations.DivTierResults := fun t w vl sb rd rs1 rs2 s hw hdom =>
  (runsChecked_divOf t w vl sb rd rs1 rs2 s).computes hw (vlen_count_le vl)
    (hdom.imp_right fun hin k hk => not_or.mpr (hin k hk))

/-- The rows of DIV in its four tiers and of MOD put the same conditions on the operands (30_encoding.md R98). -/
theorem wellFormed_divOf (t : Tier) (w : Family) (vl : VLen) (sb : Bool) (rd rs1 rs2 : RegNum) :
    (divOf t w vl sb rd rs1 rs2).wellFormed = (Instr.divPrecise w vl sb rd rs1 rs2).wellFormed ∧
      (divOf t w vl sb rd rs1 rs2).wellFormed = (Instr.mod w vl sb rd rs1 rs2).wellFormed := by
  cases t <;> exact ⟨rfl, rfl⟩

/-- Settles O56: checked commands fault at the lowest component outside the domain. -/
theorem divisionTraps : Obligations.DivisionTraps := by
  intro t w vl sb rd rs1 rs2 s i hstrict hi hw
  obtain ⟨hprecise, hmod⟩ := wellFormed_divOf t w vl sb rd rs1 rs2
  refine ⟨fun hout hlowest => ?_, fun (hzero : opnd w s (bcomp sb rs2 i) = 0) hlowest => ?_⟩
  · have hin := fun k hk => not_or.mpr (hlowest k hk)
    exact ⟨(runsChecked_divOf t w vl sb rd rs1 rs2 s).traps hw hstrict hi hout hin,
      (runsChecked_divPrecise w vl sb rd rs1 rs2 s).traps (hprecise ▸ hw) hstrict hi hout hin⟩
  · have htraps := (runsChecked_mod w vl sb rd rs1 rs2 s).traps (hmod ▸ hw) hstrict hi hzero hlowest
    rwa [hzero] at htraps

/-! ## Sign and order -/

theorem minOf_eq_min (x y : Int) : minOf x y = min x y := (min_def x y).symm

theorem maxOf_eq_max (x y : Int) : maxOf x y = max x y := (max_def' x y).symm

/-- Settles O40: each of the five writes the value of its rule. -/
theorem signAndOrderResults : Obligations.SignAndOrderResults := by
  intro w rd rs1 rs2 s
  rw [← minOf_eq_min, ← maxOf_eq_max]
  exact ⟨computesOne_of_single rfl rfl, computesOne_of_single rfl rfl, computesOne_of_single rfl rfl,
    computesOne_of_single rfl rfl, computesOne_of_single rfl rfl⟩

/-! ## The accuracy of DIV.PRECISE -/

/-- Division rounding toward zero is within less than 1 of the quotient: what is left is the remainder, smaller than the
divisor (00_scope.md R11). -/
theorem abs_truncDiv_sub_lt (a : Int) {b : Int} (hb : b ≠ 0) : |(truncDiv a b : Rat) - a / b| < 1 := by
  have hbq : (b : Rat) ≠ 0 := Int.cast_ne_zero.mpr hb
  have hdivmod : (b : Rat) * truncDiv a b + a.tmod b = a := by exact_mod_cast Int.mul_tdiv_add_tmod a b
  have hrest : (truncDiv a b : Rat) - a / b = -(a.tmod b / b) := by
    rw [← hdivmod]
    field_simp
    ring
  rw [hrest, abs_neg, abs_div, div_lt_one (abs_pos.mpr hbq)]
  have hlt : |a.tmod b| < |b| := by
    rw [Int.abs_eq_natAbs, Int.abs_eq_natAbs, Int.natAbs_tmod]
    exact_mod_cast Nat.mod_lt _ (Int.natAbs_pos.mpr hb)
  exact_mod_cast hlt

/-- Inside the domain, DIV.PRECISE without a vector leaves the truncated quotient, wrapped (41_scalar_arith.md R173). -/
theorem opnd_of_divPrecise_x1 {w : Family} {rd rs1 rs2 : RegNum} {s t : State} (hzero : opnd w s rs2 ≠ 0)
    (hmin : opnd w s rs2 ≠ minRaw w) (ht : exec (.divPrecise w .x1 false rd rs1 rs2) s = .next t) :
    opnd w t rd = wrap w.bits (truncDiv (shl (opnd w s rs1) (fracBits s.build w)) (opnd w s rs2)) := by
  have hin : ∀ k < VLen.x1.count, ¬ (opnd w s (bcomp false rs2 k) = 0 ∨ opnd w s (bcomp false rs2 k) = minRaw w) := by
    intro k hk
    obtain rfl : k = 0 := Nat.lt_one_iff.mp hk
    simp [bcomp, hzero, hmin]
  have hcomputes := (runsChecked_divPrecise w .x1 false rd rs1 rs2 s).computes
    (by simp [Instr.wellFormed, broadcastFits]) (vlen_count_le .x1) (.inr hin)
  rw [opnd_of_readReg w t rd _ (readReg_of_computes hcomputes ht), if_neg (hin 0 Nat.one_pos), wrap_wrap, comp_zero]
  simp [bcomp]

/-- Settles O41: a quotient in range is not wrapped, and truncation is within less than 1 of it. -/
theorem divPreciseWithinOneUlp : Obligations.DivPreciseWithinOneUlp := by
  intro w rd rs1 rs2 s t hzero hmin hin ht
  obtain ⟨hlo, hhi⟩ := Bool.and_eq_true_iff.mp hin
  rw [opnd_of_divPrecise_x1 hzero hmin ht, wrap_of_inRange (of_decide_eq_true hlo) (of_decide_eq_true hhi)]
  have hnear := abs_truncDiv_sub_lt (shl (opnd w s rs1) (fracBits s.build w)) hzero
  simpa [shl] using hnear

end Sys2Proof.Machine
end

section
/-! PROOFS for 42_sqrt_rcp.md. The roots and the reciprocal are checked commands of one component. The radicand of
SQRT.PRECISE is below 2^96 and at most `MAX_N ^ 2`, so its digit-by-digit root is the exact floor and is not wrapped; the
laws of R223 and R224 are those of the floor of a root. -/

namespace Sys2Proof.Machine

/-! ## The floor of a root -/

theorem floorRoot_mul_self {x : Int} (hx : 0 ≤ x) : FloorRoot (x * x) x := ⟨hx, le_rfl, by nlinarith⟩

theorem floorRoot_mono {m n p q : Int} (hp : FloorRoot m p) (hq : FloorRoot n q) (hmn : m ≤ n) : p ≤ q := by
  obtain ⟨-, hpm, -⟩ := hp
  obtain ⟨hq0, -, hnq⟩ := hq
  have hlt : p < q + 1 := lt_of_mul_self_lt_mul_self₀ (by omega) ((hpm.trans hmn).trans_lt hnq)
  omega

/-- The root loses at most 1 while the radicand reaches the square below (42_sqrt_rcp.md R224). -/
theorem floorRoot_of_square_loss {x m r : Int} (h : FloorRoot m r) (hx : 1 ≤ x) (hlo : (x - 1) * (x - 1) ≤ m)
    (hhi : m ≤ x * x) : 0 ≤ x - r ∧ x - r ≤ 1 := by
  have hle : r ≤ x := floorRoot_mono h (floorRoot_mul_self (by omega)) hhi
  have hge : x - 1 ≤ r := floorRoot_mono (floorRoot_mul_self (by omega)) h hlo
  omega

/-! ## SQRT.PRECISE -/

theorem oneRaw_le (b : Build) (w : Family) : oneRaw b w ≤ 2 ^ 32 := pow_le_pow_right₀ (by decide) (fracBits_le b w)

theorem oneRaw_le_maxRaw (b : Build) (w : Family) : oneRaw b w ≤ maxRaw w := by
  cases w with
  | q16 => exact (by decide : (2 : Int) ^ 16 ≤ maxRaw .q16)
  | q32 => exact (oneRaw_le b .q32).trans (by decide)

/-- The radicand of SQRT.PRECISE is at most `MAX_N ^ 2` and, having at most 63 + 32 bits, below 2^96
(42_sqrt_rcp.md R210). -/
theorem radicand_le (b : Build) {w : Family} {a : Int} (ha : 0 ≤ a) (hmax : a ≤ maxRaw w) :
    shl a (fracBits b w) ≤ maxRaw w * maxRaw w ∧ shl a (fracBits b w) < 2 ^ 96 := by
  have hone : (0 : Int) ≤ oneRaw b w := by unfold oneRaw; positivity
  have hword : a ≤ 2 ^ 63 := hmax.trans (by cases w <;> decide)
  refine ⟨mul_le_mul hmax (oneRaw_le_maxRaw b w) hone (ha.trans hmax), ?_⟩
  calc a * oneRaw b w ≤ 2 ^ 63 * 2 ^ 32 := mul_le_mul hword (oneRaw_le b w) hone (by decide)
    _ < 2 ^ 96 := by decide

theorem floorRoot_isqrt {m : Int} (h0 : 0 ≤ m) (h : m < 2 ^ 96) : FloorRoot m (isqrt m.toNat) := by
  obtain ⟨hle, hlt⟩ := isqrt_spec m.toNat (by omega)
  rw [← Int.toNat_of_nonneg h0, Int.toNat_natCast]
  exact ⟨Int.natCast_nonneg _, mod_cast hle, mod_cast hlt⟩

theorem runsChecked_sqrtPrecise (w : Family) (rd rs1 : RegNum) (s : State) :
    RunsChecked (.sqrtPrecise w rd rs1) s rd w 1 1 (fun _ => opnd w s rs1 < 0) (fun _ => opnd w s rs1)
      fun _ => isqrt (shl (opnd w s rs1) (fracBits s.build w)).toNat := by
  rw [RunsChecked, componentwise_one]
  rfl

/-- Settles O42: SQRT.PRECISE is a checked command, and the root of a radicand of at most `MAX_N ^ 2` is in range. -/
theorem sqrtPreciseResult : Obligations.SqrtPreciseResult := by
  intro w rd rs1 s hdom
  refine ⟨_, (runsChecked_sqrtPrecise w rd rs1 s).computes rfl (by decide)
    (hdom.imp_right fun hin _ _ => not_lt.mpr hin), fun hneg => if_pos hneg, fun hin => ?_⟩
  rw [if_neg (not_lt.mpr hin)]
  obtain ⟨hmin, hmax⟩ := opnd_range w s rs1
  obtain ⟨hsquare, hbits⟩ := radicand_le s.build hin hmax
  have hroot := floorRoot_isqrt (mul_nonneg hin (by positivity)) hbits
  exact ⟨hroot, floorRoot_mono hroot (floorRoot_mul_self (hin.trans hmax)) hsquare⟩

/-- Inside the domain SQRT.PRECISE leaves the floor of the exact root in RD (42_sqrt_rcp.md R210). -/
theorem floorRoot_of_sqrtPrecise {w : Family} {rd rs1 : RegNum} {s t : State} (hin : 0 ≤ opnd w s rs1)
    (ht : exec (.sqrtPrecise w rd rs1) s = .next t) :
    FloorRoot (shl (opnd w s rs1) (fracBits s.build w)) (opnd w t rd) := by
  obtain ⟨r, hcomputes, -, hvalue⟩ := sqrtPreciseResult w rd rs1 s (.inr hin)
  obtain ⟨hroot, hmax⟩ := hvalue hin
  have hmin : minRaw w ≤ r := le_trans (by cases w <;> decide) hroot.1
  rwa [opnd_of_computesOne hcomputes ht, wrap_of_inRange hmin hmax]

/-- MUL without a vector leaves the floored product, wrapped (41_scalar_arith.md R172). -/
theorem opnd_of_mul_x1 {w : Family} {rd rs1 rs2 : RegNum} {s t : State}
    (ht : exec (.mul w .x1 false rd rs1 rs2) s = .next t) :
    opnd w t rd = wrap w.bits (asr (opnd w s rs1 * opnd w s rs2) (fracBits s.build w)) := by
  obtain ⟨-, -, hmul⟩ := addSubMulResults w .x1 false rd rs1 rs2 s
  have hcomputes := hmul (by simp [Instr.wellFormed, broadcastFits])
  rw [opnd_of_readReg w t rd _ (readReg_of_computes hcomputes ht), wrap_wrap, comp_zero]
  simp [bcomp]

/-- The square of an x of at most 11863283, the largest whose square MUL does not wrap, is in range
(42_sqrt_rcp.md R224). -/
theorem asr_square_inRange {x : Int} (hx : |x| ≤ 11863283) :
    0 ≤ asr (x * x) 16 ∧ asr (x * x) 16 ≤ maxRaw .q16 := by
  have hsquare : x * x ≤ 11863283 * 11863283 := by
    rw [← abs_mul_abs_self]
    exact mul_le_mul hx hx (abs_nonneg x) (by decide)
  refine ⟨Int.ediv_nonneg (mul_self_nonneg x) (by decide), ?_⟩
  calc asr (x * x) 16 ≤ 11863283 * 11863283 / 2 ^ 16 := Int.ediv_le_ediv (by decide) hsquare
    _ ≤ maxRaw .q16 := by decide

/-- Settles O44: both laws are about the floor of a root. Squaring |x| >= ONE with MUL loses less than 2^16, which is
less than the distance from x^2 to (|x| - 1)^2. -/
theorem sqrtPreciseLaws : Obligations.SqrtPreciseLaws := by
  refine ⟨fun w rd rs1 s u p q hbuild hin hle hp hq => ?_, fun rx rm rd s t u hone hx ht hu => ?_⟩
  · refine floorRoot_mono (floorRoot_of_sqrtPrecise hin hp) (floorRoot_of_sqrtPrecise (hin.trans hle) hq) ?_
    rw [hbuild]
    exact mul_le_mul_of_nonneg_right hle (by positivity)
  · obtain ⟨hnonneg, hmax⟩ := asr_square_inRange hx
    have hmul : opnd .q16 t rm = asr (opnd .q16 s rx * opnd .q16 s rx) 16 :=
      (opnd_of_mul_x1 ht).trans (wrap_of_inRange (le_trans (by decide) hnonneg) hmax)
    have hroot := floorRoot_of_sqrtPrecise (hmul ▸ hnonneg) hu
    rw [hmul, ← abs_mul_abs_self] at hroot
    refine floorRoot_of_square_loss hroot (by omega) ?_ (Int.ediv_mul_le _ (by decide))
    have hloss := Int.lt_ediv_add_one_mul_self (|opnd .q16 s rx| * |opnd .q16 s rx|) (by decide : (0 : Int) < 2 ^ 16)
    simp only [shl, asr, fracBits]
    linarith

/-! ## SQRT, RSQRT and RCP in each tier -/

/-- The three tiers of SQRT are checked commands (42_sqrt_rcp.md R211). -/
theorem runsChecked_sqrtOf (t : Tier) (w : Family) (rd rs1 : RegNum) (s : State) :
    RunsChecked (sqrtOf t w rd rs1) s rd w 1 1 (fun _ => opnd w s rs1 < 0) (fun _ => opnd w s rs1)
      fun _ => if opnd w s rs1 = 0 then 0 else cfgSqrtPos s.build w t (opnd w s rs1) := by
  rw [RunsChecked, componentwise_one, checkedComponent, apply_ite Except.ok]
  cases t <;> rfl

/-- The three tiers of RSQRT are checked commands (42_sqrt_rcp.md R215). -/
theorem runsChecked_rsqrtOf (t : Tier) (w : Family) (rd rs1 : RegNum) (s : State) :
    RunsChecked (rsqrtOf t w rd rs1) s rd w 1 1 (fun _ => opnd w s rs1 ≤ 0) (fun _ => opnd w s rs1)
      fun _ => cfgRsqrtPos s.build w t (opnd w s rs1) := by
  rw [RunsChecked, componentwise_one]
  cases t <;> rfl

/-- The three tiers of RCP are checked commands (42_sqrt_rcp.md R219). -/
theorem runsChecked_rcpOf (t : Tier) (w : Family) (rd rs1 : RegNum) (s : State) :
    RunsChecked (rcpOf t w rd rs1) s rd w 1 1 (fun _ => opnd w s rs1 = 0 ∨ opnd w s rs1 = minRaw w)
      (fun _ => opnd w s rs1)
      fun _ => if 0 < opnd w s rs1 then cfgRcpPos s.build w t (opnd w s rs1)
        else wrap w.bits (-cfgRcpPos s.build w t (-opnd w s rs1)) := by
  rw [RunsChecked, componentwise_one, checkedComponent, apply_ite Except.ok]
  cases t <;> rfl

/-- The three commands of a tier are legal whatever their registers (30_encoding.md R98). -/
theorem wellFormed_rootOf (t : Tier) (w : Family) (rd rs1 : RegNum) :
    (sqrtOf t w rd rs1).wellFormed = true ∧ (rsqrtOf t w rd rs1).wellFormed = true ∧
      (rcpOf t w rd rs1).wellFormed = true := by
  cases t <;> exact ⟨rfl, rfl, rfl⟩

/-- SQRT answers 0 for a negative operand and at 0 for two reasons (42_sqrt_rcp.md R211; 60_exceptions.md R344). -/
theorem rootOrZero_eq (b : Build) (w : Family) (t : Tier) (a : Int) :
    rootOrZero b w t a = if a < 0 then 0 else if a = 0 then 0 else cfgSqrtPos b w t a := by
  unfold rootOrZero
  rcases lt_trichotomy a 0 with hneg | hzero | hpos
  · rw [if_pos hneg.le, if_pos hneg]
  · rw [if_pos hzero.le, if_neg hzero.not_lt, if_pos hzero]
  · rw [if_neg hpos.not_ge, if_neg hpos.not_gt, if_neg hpos.ne']

/-- Settles O43: the three are checked commands in each tier. -/
theorem rootTierResults : Obligations.RootTierResults := by
  intro t w rd rs1 s
  obtain ⟨hsqrt, hrsqrt, hrcp⟩ := wellFormed_rootOf t w rd rs1
  refine ⟨fun hdom => ?_, fun hdom => ?_, fun hdom => ?_⟩
  · rw [rootOrZero_eq]
    exact (runsChecked_sqrtOf t w rd rs1 s).computes hsqrt (by decide)
      (hdom.imp_right fun hin _ _ => not_lt.mpr hin)
  · exact (runsChecked_rsqrtOf t w rd rs1 s).computes hrsqrt (by decide)
      (hdom.imp_right fun hin _ _ => not_le.mpr hin)
  · exact (runsChecked_rcpOf t w rd rs1 s).computes hrcp (by decide)
      (hdom.imp_right fun hin _ _ => not_or.mpr hin)

end Sys2Proof.Machine
end

section
/-! PROOFS for 43_transcendental.md. EXP2, EXP and the trigonometric commands are total. LOG2, LOG, POW, ASIN and ACOS
are checked commands of one component: the domain checks of their inner LOG and SQRT never fail once the outer check has
passed, for ASIN and ACOS because `(1 + x)(1 - x)` lies between 0 and ONE where |x| is at most ONE. -/

namespace Sys2Proof.Machine

/-! ## Exponentials and logarithms -/

/-- The three tiers of LOG2 are checked commands (43_transcendental.md R244). -/
theorem runsChecked_log2Of (t : Tier) (w : Family) (rd rs1 : RegNum) (s : State) :
    RunsChecked (log2Of t w rd rs1) s rd w 1 1 (fun _ => opnd w s rs1 ≤ 0) (fun _ => opnd w s rs1)
      fun _ => cfgLog2Pos s.build w t (opnd w s rs1) := by
  rw [RunsChecked, componentwise_one]
  cases t <;> rfl

/-- The three tiers of LOG are checked commands (43_transcendental.md R252). -/
theorem runsChecked_logOf (t : Tier) (w : Family) (rd rs1 : RegNum) (s : State) :
    RunsChecked (logOf t w rd rs1) s rd w 1 1 (fun _ => opnd w s rs1 ≤ 0) (fun _ => opnd w s rs1)
      fun _ => mulW s.build w (cfgLog2Pos s.build w t (opnd w s rs1)) (romLn2 s.build w) := by
  rw [RunsChecked, componentwise_one]
  cases t <;> rfl

/-- POW checks x before LOG does, so that its LOG answers (43_transcendental.md R256). -/
theorem powApprox_eq (b : Build) (w : Family) (t : Tier) (x e : Int) :
    powApprox b w t x e = if x ≤ 0 then domainCheck b 1 0 x
      else .ok (expApprox b w t (mulW b w e (mulW b w (cfgLog2Pos b w t x) (romLn2 b w)))) := by
  unfold powApprox
  split
  case isTrue => rfl
  case isFalse hpos => rw [logApprox, if_neg hpos, Except.map]

theorem exec_powOf (t : Tier) (w : Family) (rd rs1 rs2 : RegNum) (s : State) :
    exec (powOf t w rd rs1 rs2) s = runCommand (powOf t w rd rs1 rs2) rd
      (single w (powApprox s.build w t (opnd w s rs1) (opnd w s rs2))) s := by
  cases t <;> rfl

/-- The three tiers of POW are checked commands (43_transcendental.md R256). -/
theorem runsChecked_powOf (t : Tier) (w : Family) (rd rs1 rs2 : RegNum) (s : State) :
    RunsChecked (powOf t w rd rs1 rs2) s rd w 1 1 (fun _ => opnd w s rs1 ≤ 0) (fun _ => opnd w s rs1)
      fun _ => expApprox s.build w t (mulW s.build w (opnd w s rs2)
        (mulW s.build w (cfgLog2Pos s.build w t (opnd w s rs1)) (romLn2 s.build w))) := by
  rw [RunsChecked, componentwise_one, exec_powOf, powApprox_eq]
  rfl

/-- LOG2, LOG and POW of a tier are legal whatever their registers (30_encoding.md R98). -/
theorem wellFormed_logarithmOf (t : Tier) (w : Family) (rd rs1 rs2 : RegNum) :
    (log2Of t w rd rs1).wellFormed = true ∧ (logOf t w rd rs1).wellFormed = true ∧
      (powOf t w rd rs1 rs2).wellFormed = true := by
  cases t <;> exact ⟨rfl, rfl, rfl⟩

theorem computesOne_exp2Of (t : Tier) (w : Family) (rd rs1 : RegNum) (s : State) :
    ComputesOne (exp2Of t w rd rs1) s rd w (exp2Approx s.build w t (opnd w s rs1)) := by
  cases t <;> exact computesOne_of_single rfl rfl

theorem computesOne_expOf (t : Tier) (w : Family) (rd rs1 : RegNum) (s : State) :
    ComputesOne (expOf t w rd rs1) s rd w (expApprox s.build w t (opnd w s rs1)) := by
  cases t <;> exact computesOne_of_single rfl rfl

/-- Settles O45: EXP2 and EXP are total, and the other three are checked commands in each tier. -/
theorem exponentialResults : Obligations.ExponentialResults := by
  intro t w rd rs1 rs2 s
  obtain ⟨hlog2, hlog, hpow⟩ := wellFormed_logarithmOf t w rd rs1 rs2
  refine ⟨computesOne_exp2Of t w rd rs1 s, computesOne_expOf t w rd rs1 s, fun hdom => ?_⟩
  have hin := hdom.imp_right fun hpos k (_ : k < 1) => not_le.mpr hpos
  exact ⟨(runsChecked_log2Of t w rd rs1 s).computes hlog2 (by decide) hin,
    (runsChecked_logOf t w rd rs1 s).computes hlog (by decide) hin,
    (runsChecked_powOf t w rd rs1 rs2 s).computes hpow (by decide) hin⟩

/-! ## Trigonometry -/

/-- Settles O46: the four are total in each tier, and `addW` is COS's wrapping sum. -/
theorem trigonometricResults : Obligations.TrigonometricResults := by
  intro t w rd rs1 rs2 s
  cases t <;>
    exact ⟨computesOne_of_single rfl rfl, computesOne_of_single rfl rfl, computesOne_of_single rfl rfl,
      computesOne_of_single rfl rfl⟩

theorem negW_wrap (w : Family) (v : Int) : negW w (wrap w.bits v) = negW w v := by simp [negW, wrap]

@[simp] theorem result_zero (w : Family) : result w 0 = 0 := by cases w <;> decide

/-- Settles O48: COS runs SIN's table on the wrapped sum; the table is odd by `sinOdd` and 0 at 0. -/
theorem sineLaws : Obligations.SineLaws := by
  intro t w rd rs1 s u p q hbuild
  obtain ⟨hsin, hcos, -⟩ := trigonometricResults t w rd rs1 0 s
  obtain ⟨hsinu, -⟩ := trigonometricResults t w rd rs1 0 u
  rw [hbuild] at hsinu
  refine ⟨fun hsum hp hq => ?_, fun hmin hneg hp hq => ⟨?_, fun hzero => ?_⟩⟩
  · rw [readReg_of_computes hcos hp, readReg_of_computes hsinu hq, hsum]
  · have hrange : inRaw w (opnd w s rs1) = true := by simpa [inRaw] using opnd_range w s rs1
    rw [opnd_of_computesOne hsin hp, opnd_of_computesOne hsinu hq, hneg, sinOdd _ w t _ hrange hmin]
    exact (wrap_wrap _ _).trans (negW_wrap w _).symm
  · rw [readReg_of_computes hsin hp, hzero, cfgSin, if_pos rfl, result_zero]

/-- Settles O49: the axis values are those of `atan2Axis`; at -ONE the wrap is the one that writing the result does
anyway. -/
theorem atan2OnAxes : Obligations.Atan2OnAxes := by
  intro t w rd rs1 rs2 s y x one
  obtain ⟨-, -, -, hatan2⟩ := trigonometricResults t w rd rs1 rs2 s
  obtain ⟨hright, htop, hleft, hbottom⟩ := atan2Axis s.build w t
  have hvalue {v : Int} (hv : cfgAtan2 s.build w t y x = v) : ComputesOne (atan2Of t w rd rs1 rs2) s rd w v :=
    hv ▸ hatan2
  refine ⟨fun hy hx => hvalue ?_, fun hy hx => hvalue ?_, fun hy hx => hvalue ?_, fun hy hx => ?_⟩
  · rw [hy, hx]; exact hright
  · rw [hy, hx]; exact htop
  · rw [hy, hx]; exact hleft
  · have hwrapped : ComputesOne (atan2Of t w rd rs1 rs2) s rd w (negW w (romPiHalf s.build w)) :=
      hvalue (by rw [hy, hx]; exact hbottom)
    rwa [ComputesOne, negW, result_wrap] at hwrapped

/-! ## Arcs -/

theorem outsideUnit_iff (b : Build) (w : Family) (a : Int) : outsideUnit b w a = true ↔ oneRaw b w < |a| := by
  rw [outsideUnit, Bool.or_eq_true, decide_eq_true_iff, decide_eq_true_iff, lt_abs, lt_neg]

/-- Widening takes the operands within ONE of either family to those within ONE of family 64
(43_transcendental.md R276, R280). -/
theorem abs_wideOperand_le {b : Build} {w : Family} {a : Int} (ha : |a| ≤ oneRaw b w) :
    |wideOperand b w a| ≤ oneRaw b .q32 := by
  cases w with
  | q32 => exact ha
  | q16 =>
    have hone : oneRaw b .q32 = oneRaw b .q16 * 2 ^ (b.frac64.bits - 16) := by
      unfold oneRaw fracBits
      cases b.frac64 <;> rfl
    have hpow : (0 : Int) ≤ 2 ^ (b.frac64.bits - 16) := by positivity
    rw [wideOperand, shl, abs_mul, abs_of_nonneg hpow, hone]
    exact mul_le_mul_of_nonneg_right ha hpow

/-- Within ONE, the product `(1 + x)(1 - x)` lies between 0 and ONE^2, so MUL neither wraps nor makes it negative. -/
theorem oneMinusSquare_nonneg {b : Build} {x : Int} (hx : |x| ≤ oneRaw b .q32) : 0 ≤ oneMinusSquare b x := by
  obtain ⟨hlo, hhi⟩ := abs_le.mp hx
  have hprod : 0 ≤ (oneRaw b .q32 + x) * (oneRaw b .q32 - x) := mul_nonneg (by omega) (by omega)
  have hasr : 0 ≤ asr ((oneRaw b .q32 + x) * (oneRaw b .q32 - x)) (fracBits b .q32) :=
    Int.ediv_nonneg hprod (by positivity)
  have hle : asr ((oneRaw b .q32 + x) * (oneRaw b .q32 - x)) (fracBits b .q32) ≤ oneRaw b .q32 := by
    refine Int.ediv_le_of_le_mul (by positivity) ?_
    change _ ≤ oneRaw b .q32 * oneRaw b .q32
    nlinarith [mul_self_nonneg x]
  rw [oneMinusSquare, mulW, wrap_of_inRange (le_trans (by decide) hasr) (hle.trans (oneRaw_le_maxRaw b .q32))]
  exact hasr

/-- SQRT of a value that is not negative answers (42_sqrt_rcp.md R211). -/
theorem sqrtApprox_of_nonneg (b : Build) (w : Family) (t : Tier) {a : Int} (ha : 0 ≤ a) :
    sqrtApprox b w t a = .ok (rootOrZero b w t a) := by
  rw [sqrtApprox, if_neg ha.not_gt, rootOrZero_eq, if_neg ha.not_gt, apply_ite Except.ok]

/-- The approximate root of `(1 + x)(1 - x)` for the widened operand x (43_transcendental.md R276, R280). -/
def arcRoot (b : Build) (w : Family) (t : Tier) (a : Int) : Int :=
  rootOrZero b .q32 t (oneMinusSquare b (wideOperand b w a))

/-- What ASIN and ACOS do with their root is done behind their own domain check alone (43_transcendental.md R276,
R280). -/
theorem arcApprox_eq (b : Build) (w : Family) (t : Tier) (a : Int) (f : Int → Int) :
    (if outsideUnit b w a then domainCheck b 1 0 a
      else (sqrtApprox b .q32 t (oneMinusSquare b (wideOperand b w a))).map f) =
    if oneRaw b w < |a| then domainCheck b 1 0 a else .ok (f (arcRoot b w t a)) := by
  simp only [outsideUnit_iff]
  split
  case isTrue => rfl
  case isFalse hin =>
    rw [sqrtApprox_of_nonneg b .q32 t (oneMinusSquare_nonneg (abs_wideOperand_le (not_lt.mp hin)))]
    rfl

theorem exec_asinOf (t : Tier) (w : Family) (rd rs1 : RegNum) (s : State) :
    exec (asinOf t w rd rs1) s =
      runCommand (asinOf t w rd rs1) rd (single w (asinApprox s.build w t (opnd w s rs1))) s := by
  cases t <;> rfl

theorem exec_acosOf (t : Tier) (w : Family) (rd rs1 : RegNum) (s : State) :
    exec (acosOf t w rd rs1) s =
      runCommand (acosOf t w rd rs1) rd (single w (acosApprox s.build w t (opnd w s rs1))) s := by
  cases t <;> rfl

/-- The three tiers of ASIN are checked commands (43_transcendental.md R276). -/
theorem runsChecked_asinOf (t : Tier) (w : Family) (rd rs1 : RegNum) (s : State) :
    RunsChecked (asinOf t w rd rs1) s rd w 1 1 (fun _ => oneRaw s.build w < |opnd w s rs1|) (fun _ => opnd w s rs1)
      fun _ => narrowResult s.build w (cfgAtan2 s.build .q32 t (wideOperand s.build w (opnd w s rs1))
        (arcRoot s.build w t (opnd w s rs1))) := by
  rw [RunsChecked, componentwise_one, exec_asinOf, asinApprox, arcApprox_eq]
  rfl

/-- The three tiers of ACOS are checked commands (43_transcendental.md R280). -/
theorem runsChecked_acosOf (t : Tier) (w : Family) (rd rs1 : RegNum) (s : State) :
    RunsChecked (acosOf t w rd rs1) s rd w 1 1 (fun _ => oneRaw s.build w < |opnd w s rs1|) (fun _ => opnd w s rs1)
      fun _ => narrowResult s.build w (cfgAtan2 s.build .q32 t (arcRoot s.build w t (opnd w s rs1))
        (wideOperand s.build w (opnd w s rs1))) := by
  rw [RunsChecked, componentwise_one, exec_acosOf, acosApprox, arcApprox_eq]
  rfl

/-- ASIN and ACOS of a tier are legal whatever their registers (30_encoding.md R98). -/
theorem wellFormed_arcOf (t : Tier) (w : Family) (rd rs1 : RegNum) :
    (asinOf t w rd rs1).wellFormed = true ∧ (acosOf t w rd rs1).wellFormed = true := by
  cases t <;> exact ⟨rfl, rfl⟩

/-- ASIN and ACOS complete in a release build, and in a strict build within ONE (43_transcendental.md R276, R280). -/
theorem computesOne_asinOf_acosOf (t : Tier) (w : Family) (rd rs1 : RegNum) (s : State)
    (hdom : s.build.strict = false ∨ |opnd w s rs1| ≤ oneRaw s.build w) :
    ComputesOne (asinOf t w rd rs1) s rd w (if oneRaw s.build w < |opnd w s rs1| then 0
      else narrowResult s.build w (cfgAtan2 s.build .q32 t (wideOperand s.build w (opnd w s rs1))
        (arcRoot s.build w t (opnd w s rs1)))) ∧
    ComputesOne (acosOf t w rd rs1) s rd w (if oneRaw s.build w < |opnd w s rs1| then 0
      else narrowResult s.build w (cfgAtan2 s.build .q32 t (arcRoot s.build w t (opnd w s rs1))
        (wideOperand s.build w (opnd w s rs1)))) := by
  obtain ⟨hasin, hacos⟩ := wellFormed_arcOf t w rd rs1
  have hin := hdom.imp_right fun hle k (_ : k < 1) => not_lt.mpr hle
  exact ⟨(runsChecked_asinOf t w rd rs1 s).computes hasin (by decide) hin,
    (runsChecked_acosOf t w rd rs1 s).computes hacos (by decide) hin⟩

/-- Settles O47: its clauses are the two families of one statement, with the widening and narrowing written out. -/
theorem arcResults : Obligations.ArcResults := fun t rd rs1 s =>
  ⟨computesOne_asinOf_acosOf t .q32 rd rs1 s, computesOne_asinOf_acosOf t .q16 rd rs1 s⟩

end Sys2Proof.Machine
end

section
/-! PROOFS for 44_vector.md. The componentwise commands run one loop, and what a component computes does not depend on
its place in it (R300). DOT's wrapped sum is the wrap of the sum. LENGTH, NORM and CLAMPLEN compute from one squared length:
inside their domain they answer for it, and outside it they report it (60_exceptions.md R342). Where no value wraps, the
bounds of LENSQR by DOT are those of the floor of a sum by the sum of the floors. -/

namespace Sys2Proof.Machine

/-! ## Components and scalar commands -/

/-- A loop that answers has the results of its components in order (44_vector.md R300). -/
theorem getElem?_of_componentsFrom {f : Nat → Except DomainError Int} {n i : Nat} {vs : List Int}
    (h : componentsFrom f i n = .ok vs) {k : Nat} (hk : k < n) : vs[k]? = (f (i + k)).toOption := by
  induction n generalizing i k vs with
  | zero => exact absurd hk k.not_lt_zero
  | succ n ih =>
    rw [componentsFrom] at h
    cases hf : f i with
    | error e => rw [hf] at h; cases h
    | ok v =>
      cases htail : componentsFrom f (i + 1) n with
      | error e => rw [hf, htail] at h; cases h
      | ok us =>
        rw [hf, htail] at h
        cases h
        cases k with
        | zero => rw [Nat.add_zero, hf]; rfl
        | succ k => rw [List.getElem?_cons_succ, ih htail (by omega), Nat.add_right_comm, Nat.add_assoc]

theorem getElem?_of_componentwise {w : Family} {n : Nat} {f : Nat → Except DomainError Int} {vs : List Word64}
    (h : componentwise w n f = .ok vs) {k : Nat} (hk : k < n) : vs[k]? = (f k).toOption.map (result w) := by
  unfold componentwise at h
  cases hloop : componentsFrom f 0 n with
  | error e => rw [hloop] at h; cases h
  | ok us =>
    rw [hloop] at h
    cases h
    rw [List.getElem?_map, getElem?_of_componentsFrom hloop hk, Nat.zero_add]

/-- A componentwise command that was counted wrote the results of its components (10_state.md R46;
44_vector.md R300). -/
theorem readReg_of_counted {i : Instr} {rd : RegNum} {w : Family} {n : Nat} {f : Nat → Except DomainError Int}
    {s p : State} (hrun : exec i s = runCommand i rd (componentwise w n f) s) (hp : exec i s = .next p)
    (hcount : p.cmdcnt = s.cmdcnt + 1) (hn : n ≤ 32) {k : Nat} (hk : k < n) :
    some (p.readReg (comp rd k)) = (f k).toOption.map (result w) := by
  rw [hrun] at hp
  have hcounted : s.cmdcnt ≠ s.cmdcnt + 1 := by bv_omega
  rcases runCommand_cases _ _ _ _ _ hp with ⟨-, rfl⟩ | ⟨-, e, -, rfl⟩ | ⟨-, vs, hvs, rfl⟩
  · exact absurd hcount hcounted
  · exact absurd hcount hcounted
  · have hlen := length_of_componentwise hvs
    rw [readReg_countCommand, readReg_writeGroup_in _ _ _ (by omega) k (by omega), ← getElem?_of_componentwise hvs hk,
      List.getElem?_eq_getElem]

/-- Both commands run the loop over components and write from rd on, and component k of the first has the result of the
one component of the second, or neither has one. -/
def ComponentIsScalar (vector scalar : Instr) (rd : RegNum) (n k : Nat) (s : State) : Prop :=
  ∃ w f g, exec vector s = runCommand vector rd (componentwise w n f) s ∧
    exec scalar s = runCommand scalar rd (componentwise w VLen.x1.count g) s ∧ (f k).toOption = (g 0).toOption

theorem ComponentIsScalar.readReg_eq {vector scalar : Instr} {rd : RegNum} {n k : Nat} {s p q : State}
    (h : ComponentIsScalar vector scalar rd n k s) (hn : n ≤ 32) (hk : k < n) (hp : exec vector s = .next p)
    (hq : exec scalar s = .next q) (hpcount : p.cmdcnt = s.cmdcnt + 1) (hqcount : q.cmdcnt = s.cmdcnt + 1) :
    p.readReg (comp rd k) = q.readReg rd := by
  obtain ⟨w, f, g, hvector, hscalar, hsame⟩ := h
  have hcomponent := readReg_of_counted hvector hp hpcount hn hk
  have hone := readReg_of_counted hscalar hq hqcount (by decide) Nat.one_pos
  rw [hsame, ← hone, comp_zero] at hcomponent
  exact Option.some.inj hcomponent

@[simp] theorem bcomp_false_zero (r : RegNum) : bcomp false r 0 = r := comp_zero r

/-- A computation behind a domain check names its component only in the fault it reports (60_exceptions.md R343,
R344). -/
theorem toOption_domainChecked (p : Prop) [Decidable p] (b : Build) (arg : BitVec 2) (i j : Nat) (v : Int)
    (r : Except DomainError Int) :
    (if p then domainCheck b arg i v else r).toOption = (if p then domainCheck b arg j v else r).toOption := by
  have hcheck : (domainCheck b arg i v).toOption = (domainCheck b arg j v).toOption := by
    unfold domainCheck
    split <;> rfl
  rw [apply_ite Except.toOption, apply_ite Except.toOption, hcheck]

/-- Settles O28: each pair of commands computes one function of the component's operands. Where that has a domain check,
in the divisions and MOD, only the fault depends on the component's place. -/
theorem componentsAreScalarCommands : Obligations.ComponentsAreScalarCommands := by
  intro w vl sb rd rs1 rs2 rs3 k s p q hk hpcount hqcount vector scalar _ hmem hp hq
  suffices h : ComponentIsScalar vector scalar rd vl.count k s from
    h.readReg_eq (vlen_count_le vl) hk hp hq hpcount hqcount
  simp only [List.mem_cons, List.not_mem_nil, or_false, Prod.mk.injEq] at hmem
  rcases hmem with ⟨rfl, rfl⟩ | ⟨rfl, rfl⟩ | ⟨rfl, rfl⟩ | ⟨rfl, rfl⟩ | ⟨rfl, rfl⟩ | ⟨rfl, rfl⟩ | ⟨rfl, rfl⟩ |
    ⟨rfl, rfl⟩ | ⟨rfl, rfl⟩ | ⟨rfl, rfl⟩ | ⟨rfl, rfl⟩ | ⟨rfl, rfl⟩ | ⟨rfl, rfl⟩
  all_goals refine ⟨_, _, _, rfl, by unfold exec; exact rfl, ?_⟩
  all_goals simp only [comp_zero, bcomp_false_zero]
  all_goals exact toOption_domainChecked ..

/-! ## CLAMP and LERP -/

/-- Settles O50: neither has a domain condition, and `clampRaw` and `lerpRaw` are the values of their rules. -/
theorem clampLerpResults : Obligations.ClampLerpResults := fun _ vl _ _ _ _ _ _ =>
  ⟨fun hw => computes_of_components rfl hw (vlen_count_le vl),
    fun hw => computes_of_components rfl hw (vlen_count_le vl)⟩

/-! ## DOT, CROSS and the squared length -/

/-- A command whose group of results is computed without a domain error completes with it (44_vector.md R300). -/
theorem computes_of_group {i : Instr} {w : Family} {n : Nat} {rd : RegNum} {s : State} {g : Nat → Int}
    (he : exec i s = runCommand i rd (groupResult w (.ok ((List.range n).map g))) s) (hw : i.wellFormed = true)
    (hn : n ≤ 32) : Computes i s rd n fun k => result w (g k) :=
  computes_of_run i s rd n _ _ he hw hn (by simp) (by simp)

@[simp] theorem wrap_zero (n : Nat) : wrap n 0 = 0 := by simp [wrap]

/-- Wrapping at each addition is wrapping the sum once (00_scope.md R11). -/
theorem foldl_wrap_add {α : Type} (n : Nat) (f : α → Int) (l : List α) (a : Int) :
    l.foldl (fun acc x => wrap n (acc + f x)) (wrap n a) = wrap n (a + (l.map f).sum) := by
  induction l generalizing a with
  | nil => simp
  | cons x l ih =>
    have hstep : wrap n (wrap n a + f x) = wrap n (a + f x) := by simp [wrap]
    rw [List.foldl_cons, hstep, ih, List.map_cons, List.sum_cons, add_assoc]

/-- DOT is the wrapped sum of the MULs (44_vector.md R304). -/
theorem dotRaw_eq (b : Build) (w : Family) (xs ys : List Int) :
    dotRaw b w xs ys = wrap w.bits ((xs.zip ys).map fun p => mulW b w p.1 p.2).sum := by
  have hfold := foldl_wrap_add w.bits (fun p : Int × Int => mulW b w p.1 p.2) (xs.zip ys) 0
  rwa [zero_add, wrap_zero] at hfold

theorem dotRaw_opnds (b : Build) (w : Family) (s : State) (q r : RegNum) (n : Nat) :
    dotRaw b w (opnds w s q n) (opnds w s r n) =
      wrap w.bits ((List.range n).map fun i => mulW b w (opnd w s (comp q i)) (opnd w s (comp r i))).sum := by
  rw [dotRaw_eq, opnds, opnds, List.zip_map', List.map_map]
  rfl

theorem sumSquares_opnds (w : Family) (s : State) (r : RegNum) (n : Nat) :
    sumSquares (opnds w s r n) = ((List.range n).map fun i => opnd w s (comp r i) ^ 2).sum := by
  rw [sumSquares, opnds, List.map_map]
  rfl

theorem lenSqr_opnds (w : Family) (s : State) (r : RegNum) (n : Nat) :
    lenSqr s.build w (opnds w s r n) = squaredLength w s r n := by
  rw [lenSqr, sumSquares_opnds, squaredLength]

theorem computesOne_dot {w : Family} {vl : VLen} {rd rs1 rs2 : RegNum} (s : State)
    (hw : (Instr.dot w vl rd rs1 rs2).wellFormed = true) :
    ComputesOne (.dot w vl rd rs1 rs2) s rd w
      (dotRaw s.build w (opnds w s rs1 vl.count) (opnds w s rs2 vl.count)) :=
  computesOne_of_single rfl hw

theorem computesOne_lensqr {w : Family} {vl : VLen} {rd rs1 : RegNum} (s : State)
    (hw : (Instr.lensqr w vl rd rs1).wellFormed = true) :
    ComputesOne (.lensqr w vl rd rs1) s rd w (lenSqr s.build w (opnds w s rs1 vl.count)) :=
  computesOne_of_single rfl hw

/-- CROSS completes with its three differences of products (44_vector.md R305). -/
theorem computes_cross {w : Family} {rd rs1 rs2 : RegNum} (s : State)
    (hw : (Instr.cross w rd rs1 rs2).wellFormed = true) :
    Computes (.cross w rd rs1 rs2) s rd 3 fun i => result w (crossTerm s.build w
      (opnd w s (comp rs1 ((i + 1) % 3))) (opnd w s (comp rs2 ((i + 2) % 3)))
      (opnd w s (comp rs1 ((i + 2) % 3))) (opnd w s (comp rs2 ((i + 1) % 3)))) :=
  computes_of_group (n := 3) rfl hw (by decide)

/-- Settles O51: DOT wraps once by `dotRaw_opnds`, and the squares are those of the operands of the group. -/
theorem productResults : Obligations.ProductResults := by
  intro w vl rd rs1 rs2 s
  refine ⟨fun hw => ?_, fun hw => computes_cross s hw, fun hw => ?_, fun hw => ?_⟩
  · rw [← dotRaw_opnds]
    exact computesOne_dot s hw
  · rw [← lenSqr_opnds]
    exact computesOne_lensqr s hw
  · rw [← sumSquares_opnds]
    exact computesOne_of_single rfl hw

/-! ## Commands that check the squared length -/

section SquaredLength
variable {b : Build} {w : Family} {t : Tier} {xs : List Int}

/-- The root of a squared length answers 0 for a negative one in a release build (44_vector.md R308;
60_exceptions.md R344). -/
theorem lengthOf_ok {l : Int} {root : Int → Except DomainError Int} {r : Int} (hneg : l < 0 → r = 0)
    (hroot : 0 ≤ l → root l = .ok r) (hdom : b.strict = false ∨ 0 ≤ l) : lengthOf b l root = .ok r := by
  unfold lengthOf
  split
  case isTrue h => rw [domainCheck_release _ _ _ _ (hdom.resolve_right (not_le.mpr h)), hneg h]
  case isFalse h => exact hroot (not_lt.mp h)

/-- In a strict build a negative squared length is reported as an internal value (44_vector.md R308;
60_exceptions.md R342). -/
theorem lengthOf_error {l : Int} (root : Int → Except DomainError Int) (hstrict : b.strict = true) (hneg : l < 0) :
    lengthOf b l root = .error ⟨0, 0, l⟩ := by
  rw [lengthOf, if_pos hneg, domainCheck_strict _ _ _ _ hstrict]
  rfl

theorem rootOrZero_of_nonpos {a : Int} (h : a ≤ 0) : rootOrZero b w t a = 0 := if_pos h

theorem lengthApprox_ok (hdom : b.strict = false ∨ 0 ≤ lenSqr b w xs) :
    lengthApprox b w t xs = .ok (rootOrZero b w t (lenSqr b w xs)) :=
  lengthOf_ok (fun h => rootOrZero_of_nonpos h.le) (sqrtApprox_of_nonneg b w t) hdom

theorem normApprox_ok (hdom : b.strict = false ∨ 0 < lenSqr b w xs) :
    normApprox b w t xs = .ok (xs.map fun x => mulW b w x (rsqrtOrZero b w t (lenSqr b w xs))) := by
  unfold normApprox rsqrtApprox rsqrtOrZero
  split
  case isTrue h => rw [domainCheck_release _ _ _ _ (hdom.resolve_right (not_lt.mpr h))]; rfl
  case isFalse => rfl

/-- In a strict build NORM reports a squared length that is not positive (44_vector.md R313;
60_exceptions.md R342). -/
theorem normApprox_error (hstrict : b.strict = true) (h : lenSqr b w xs ≤ 0) :
    normApprox b w t xs = .error ⟨0, 0, lenSqr b w xs⟩ := by
  rw [normApprox, rsqrtApprox, if_pos h, domainCheck_strict _ _ _ _ hstrict]
  rfl

/-- CLAMPLEN normalises only a group that is longer than the maximum, so that at length 0 its NORM answers if the
maximum is not negative (44_vector.md R317). -/
theorem clampLenApprox_ok {m : Int}
    (hdom : b.strict = false ∨ 0 < lenSqr b w xs ∨ (lenSqr b w xs = 0 ∧ 0 ≤ m)) :
    clampLenApprox b w t xs m = .ok (xs.map fun x => if m < rootOrZero b w t (lenSqr b w xs) then
      mulW b w (mulW b w x (rsqrtOrZero b w t (lenSqr b w xs))) m else x) := by
  have hlength : b.strict = false ∨ 0 ≤ lenSqr b w xs := hdom.imp_right fun h => by omega
  rw [clampLenApprox, lengthApprox_ok hlength]
  by_cases hlong : m < rootOrZero b w t (lenSqr b w xs)
  · have hnorm : b.strict = false ∨ 0 < lenSqr b w xs := by
      refine hdom.imp_right fun h => h.resolve_right fun ⟨hzero, hm⟩ => ?_
      rw [rootOrZero_of_nonpos hzero.le] at hlong
      omega
    simp [hlong, normApprox_ok hnorm, Except.map]
  · simp [hlong]

/-- In a strict build CLAMPLEN reports a negative squared length by its root, and the squared length 0 by its NORM if
the maximum is negative (44_vector.md R317; 60_exceptions.md R342). -/
theorem clampLenApprox_error {m : Int} (hstrict : b.strict = true)
    (h : lenSqr b w xs < 0 ∨ (lenSqr b w xs = 0 ∧ m < 0)) :
    clampLenApprox b w t xs m = .error ⟨0, 0, lenSqr b w xs⟩ := by
  rw [clampLenApprox]
  rcases h with hneg | ⟨hzero, hm⟩
  · rw [lengthApprox, lengthOf_error _ hstrict hneg]
  · rw [lengthApprox_ok (.inr hzero.ge), rootOrZero_of_nonpos hzero.le, normApprox_error hstrict hzero.le]
    exact if_pos hm

end SquaredLength

/-! ## LENGTH, NORM and CLAMPLEN in each tier -/

theorem exec_lengthTierOf (t : Tier) (w : Family) (vl : VLen) (rd rs1 : RegNum) (s : State) :
    exec (lengthTierOf t w vl rd rs1) s = runCommand (lengthTierOf t w vl rd rs1) rd
      (single w (lengthApprox s.build w t (opnds w s rs1 vl.count))) s := by
  cases t <;> rfl

theorem exec_lengthPrecise (w : Family) (vl : VLen) (rd rs1 : RegNum) (s : State) :
    exec (.lengthPrecise w vl rd rs1) s = runCommand (.lengthPrecise w vl rd rs1) rd
      (single w (lengthPreciseRaw s.build w (opnds w s rs1 vl.count))) s := rfl

theorem exec_normOf (t : Tier) (w : Family) (vl : VLen) (rd rs1 : RegNum) (s : State) :
    exec (normOf t w vl rd rs1) s = runCommand (normOf t w vl rd rs1) rd
      (groupResult w (normApprox s.build w t (opnds w s rs1 vl.count))) s := by
  cases t <;> rfl

theorem exec_clamplenOf (t : Tier) (w : Family) (vl : VLen) (rd rs1 rs2 : RegNum) (s : State) :
    exec (clamplenOf t w vl rd rs1 rs2) s = runCommand (clamplenOf t w vl rd rs1 rs2) rd
      (groupResult w (clampLenApprox s.build w t (opnds w s rs1 vl.count) (opnd w s rs2))) s := by
  cases t <;> rfl

theorem squaredLength_le_maxRaw (w : Family) (s : State) (r : RegNum) (n : Nat) :
    squaredLength w s r n ≤ maxRaw w :=
  Int.le_sub_one_of_lt (wrap_range w.bits (by cases w <;> decide) _).2

/-- Settles O52: each tier answers for the squared length inside its domain, and the exact root is that of a radicand
below 2^96. -/
theorem lengthResults : Obligations.LengthResults := by
  intro t w vl rd rs1 s hdom
  rw [← lenSqr_opnds] at hdom ⊢
  have hmax : lenSqr s.build w (opnds w s rs1 vl.count) ≤ maxRaw w := by
    rw [lenSqr_opnds]
    exact squaredLength_le_maxRaw w s rs1 vl.count
  refine ⟨fun hw => computesOne_of_single ?_ hw, fun hw => ?_⟩
  · rw [exec_lengthTierOf, lengthApprox_ok hdom]
  · generalize hl : lenSqr s.build w (opnds w s rs1 vl.count) = l at hdom hmax
    refine ⟨if l < 0 then 0 else isqrt (shl l (fracBits s.build w)).toNat, computesOne_of_single ?_ hw,
      fun h => if_pos h, fun h => ?_⟩
    · rw [exec_lengthPrecise, lengthPreciseRaw, hl, lengthOf_ok (fun h => if_pos h) (fun h => ?_) hdom]
      rw [sqrtPreciseRaw_ok _ _ _ h, if_neg h.not_gt]
    · rw [if_neg h.not_gt]
      exact floorRoot_isqrt (mul_nonneg h (by positivity)) (radicand_le s.build h hmax).2

/-- Settles O53: both compute from the operands of the group and its squared length. -/
theorem normClampLenResults : Obligations.NormClampLenResults := by
  intro t w vl rd rs1 rs2 s
  rw [← lenSqr_opnds]
  refine ⟨fun hw hdom => computes_of_group ?_ hw (vlen_count_le vl),
    fun hw hdom => computes_of_group ?_ hw (vlen_count_le vl)⟩
  · rw [exec_normOf, normApprox_ok hdom, opnds, List.map_map]
    rfl
  · rw [exec_clamplenOf, clampLenApprox_ok hdom, opnds, List.map_map]
    rfl

/-- LENGTH.PRECISE puts the conditions of the other tiers on its operands (30_encoding.md R98). -/
theorem wellFormed_lengthTierOf (t : Tier) (w : Family) (vl : VLen) (rd rs1 : RegNum) :
    (lengthTierOf t w vl rd rs1).wellFormed = (Instr.lengthPrecise w vl rd rs1).wellFormed := by
  cases t <;> rfl

/-- Settles O58: the squared length is what each of the commands reports. -/
theorem lengthDomainTraps : Obligations.LengthDomainTraps := by
  intro t w vl rd rs1 rs2 s hstrict
  rw [← lenSqr_opnds]
  refine ⟨fun hneg hw => ⟨?_, ?_⟩, fun hnonpos hw => ?_, fun hout hw => ?_⟩
  · refine traps_of_run _ s rd ⟨0, 0, _⟩ ?_ hw
    rw [exec_lengthTierOf, lengthApprox, lengthOf_error _ hstrict hneg]
    rfl
  · refine traps_of_run _ s rd ⟨0, 0, _⟩ ?_ (wellFormed_lengthTierOf t w vl rd rs1 ▸ hw)
    rw [exec_lengthPrecise, lengthPreciseRaw, lengthOf_error _ hstrict hneg]
    rfl
  · refine traps_of_run _ s rd ⟨0, 0, _⟩ ?_ hw
    rw [exec_normOf, normApprox_error hstrict hnonpos]
    rfl
  · refine traps_of_run _ s rd ⟨0, 0, _⟩ ?_ hw
    rw [exec_clamplenOf, clampLenApprox_error hstrict hout]
    rfl

/-! ## Laws of CROSS and LERP -/

/-- The destination of a command that completed holds its results. -/
theorem readReg_comp_of_computes {i : Instr} {s t : State} {rd : RegNum} {n : Nat} {v : Nat → Word64}
    (h : Computes i s rd n v) (ht : exec i s = .next t) {k : Nat} (hk : k < n) : t.readReg (comp rd k) = v k := by
  obtain ⟨u, hu, ⟨⟨hwritten, -⟩, -⟩, -⟩ := h
  rw [hu, Host.Outcome.next.injEq] at ht
  rw [← ht, hwritten k hk]

/-- MUL commutes, so a cross term of a group with itself is 0 (44_vector.md R305). -/
theorem crossTerm_self (b : Build) (w : Family) (x y : Int) : crossTerm b w x y y x = 0 := by
  rw [crossTerm, subW, mulW, mulW, mul_comm y x, sub_self, wrap_zero]

/-- A shift to the right undoes multiplication by ONE (00_scope.md R11, R12). -/
theorem asr_mul_oneRaw (b : Build) (w : Family) (x : Int) : asr (x * oneRaw b w) (fracBits b w) = x :=
  Int.mul_ediv_cancel x (pow_ne_zero _ two_ne_zero)

/-- At t = 0 LERP gives its first end point: ONE - t does not wrap (44_vector.md R303). -/
theorem lerpRaw_zero (b : Build) (w : Family) (x y : Int) : lerpRaw b w x y 0 = wrap w.bits x := by
  have hmin : minRaw w ≤ oneRaw b w := le_trans (by cases w <;> decide) (pow_nonneg (by decide) (fracBits b w))
  rw [lerpRaw, sub_zero, wrap_of_inRange hmin (oneRaw_le_maxRaw b w), mul_zero, add_zero, asr_mul_oneRaw]

/-- At t = ONE LERP gives its second end point (44_vector.md R303). -/
theorem lerpRaw_oneRaw (b : Build) (w : Family) (x y : Int) : lerpRaw b w x y (oneRaw b w) = wrap w.bits y := by
  rw [lerpRaw, sub_self, wrap_zero, mul_zero, zero_add, asr_mul_oneRaw]

/-- Settles O54: each cross term is a difference of equal products, and LERP's end points are operands, which do not
wrap. -/
theorem crossSelfAndLerpEnds : Obligations.CrossSelfAndLerpEnds := by
  refine ⟨fun w rd rs1 s t hw ht i hi => ?_, fun w vl rd rs1 rs2 rs3 s t hw ht i hi => ?_⟩
  · rw [readReg_comp_of_computes (computes_cross s hw) ht hi, crossTerm_self, result_zero]
  · have hcomputes : Computes (.lerp w vl rd rs1 rs2 rs3) s rd vl.count fun i => result w
        (lerpRaw s.build w (opnd w s (comp rs1 i)) (opnd w s (comp rs2 i)) (opnd w s rs3)) :=
      computes_of_components rfl hw (vlen_count_le vl)
    rw [opnd_of_readReg w t _ _ (readReg_comp_of_computes hcomputes ht hi)]
    refine ⟨fun hzero => ?_, fun hone => ?_⟩
    · rw [hzero, lerpRaw_zero, wrap_wrap, wrap_opnd]
    · rw [hone, ← oneRaw, lerpRaw_oneRaw, wrap_wrap, wrap_opnd]

/-! ## The bounds of LENSQR by DOT -/

/-- The floor of a sum of n terms lies between the sum of their floors and n - 1 above it: each floor loses less
than 1. -/
theorem asr_sum_bounds (k : Nat) {l : List Int} (h : l ≠ []) :
    (l.map fun x => asr x k).sum ≤ asr l.sum k ∧ asr l.sum k ≤ (l.map fun x => asr x k).sum + (l.length - 1) := by
  have hpow : (0 : Int) < 2 ^ k := by positivity
  have hbelow : (l.map fun x => asr x k * 2 ^ k).sum ≤ (l.map id).sum :=
    List.sum_le_sum fun x _ => Int.ediv_mul_le x hpow.ne'
  have habove : (l.map id).sum < (l.map fun x => (asr x k + 1) * 2 ^ k).sum :=
    List.sum_lt_sum_of_ne_nil h _ _ fun x _ => Int.lt_ediv_add_one_mul_self x hpow
  rw [List.sum_map_mul_right, List.map_id] at hbelow habove
  have hless : asr l.sum k < (l.map fun x => asr x k + 1).sum := Int.ediv_lt_of_lt_mul hpow habove
  rw [List.sum_map_add, List.map_const', List.sum_replicate, nsmul_one] at hless
  exact ⟨(Int.le_ediv_iff_mul_le hpow).mpr hbelow, by omega⟩

/-- The sum of the squares, each floored by itself, as DOT has it (44_vector.md R304). -/
def flooredSquares (b : Build) (w : Family) (xs : List Int) : Int := (xs.map fun x => asr (x ^ 2) (fracBits b w)).sum

section FlooredSquares
variable {b : Build} {w : Family} {xs : List Int}

theorem flooredSquares_bounds (hne : xs ≠ []) :
    flooredSquares b w xs ≤ asr (sumSquares xs) (fracBits b w) ∧
      asr (sumSquares xs) (fracBits b w) ≤ flooredSquares b w xs + (xs.length - 1) := by
  have hbounds := asr_sum_bounds (fracBits b w) (l := xs.map fun x => x ^ 2) (by simpa using hne)
  rwa [List.map_map, List.length_map] at hbounds

theorem asr_sq_nonneg (x : Int) (k : Nat) : 0 ≤ asr (x ^ 2) k := Int.ediv_nonneg (sq_nonneg x) (by positivity)

theorem flooredSquares_nonneg : 0 ≤ flooredSquares b w xs := by
  refine List.sum_nonneg fun v hv => ?_
  obtain ⟨x, -, rfl⟩ := List.mem_map.mp hv
  exact asr_sq_nonneg x _

theorem wrap_of_nonneg {v : Int} (h : 0 ≤ v) (hmax : v ≤ maxRaw w) : wrap w.bits v = v :=
  wrap_of_inRange (le_trans (by cases w <;> decide) h) hmax

/-- Where the floored sum of squares is in range, no MUL of a component with itself wraps, because no square is
negative (44_vector.md R321; assumption log 20). -/
theorem mulW_self_eq (hmax : asr (sumSquares xs) (fracBits b w) ≤ maxRaw w) {x : Int} (hx : x ∈ xs) :
    mulW b w x x = asr (x ^ 2) (fracBits b w) := by
  have hle : x ^ 2 ≤ sumSquares xs :=
    List.single_le_sum (by simp [sq_nonneg]) _ (List.mem_map_of_mem hx)
  have hasr : asr (x ^ 2) (fracBits b w) ≤ asr (sumSquares xs) (fracBits b w) :=
    Int.ediv_le_ediv (by positivity) hle
  rw [mulW, ← sq, wrap_of_nonneg (asr_sq_nonneg x _) (hasr.trans hmax)]

theorem dotRaw_self (hmax : asr (sumSquares xs) (fracBits b w) ≤ maxRaw w) :
    dotRaw b w xs xs = wrap w.bits (flooredSquares b w xs) := by
  have hzip : xs.zip xs = xs.map fun x => (x, x) := by simpa using List.zip_map' (f := id) (g := id) (l := xs)
  rw [dotRaw_eq, hzip, List.map_map]
  exact congrArg (fun l => wrap w.bits l.sum) (List.map_congr_left fun x hx => mulW_self_eq hmax hx)

end FlooredSquares

/-- Settles O55: where the floored sum of squares is in range, neither command wraps, and they leave the two sides of
`flooredSquares_bounds`. -/
theorem dotBoundsLensqr : Obligations.DotBoundsLensqr := by
  intro w vl rd rs1 s t u hw hmax ht hu
  rw [← sumSquares_opnds] at hmax
  have hne : opnds w s rs1 vl.count ≠ [] := by cases vl <;> exact List.cons_ne_nil _ _
  obtain ⟨hlo, hhi⟩ := flooredSquares_bounds (b := s.build) (w := w) hne
  rw [length_opnds] at hhi
  have hdotWf : (Instr.dot w vl rd rs1 rs1).wellFormed = true := by
    rw [Instr.wellFormed, Bool.and_assoc, Bool.and_self]
    exact hw
  have hdot : opnd w t rd = flooredSquares s.build w (opnds w s rs1 vl.count) := by
    rw [opnd_of_computesOne (computesOne_dot s hdotWf) ht, dotRaw_self hmax, wrap_wrap,
      wrap_of_nonneg flooredSquares_nonneg (hlo.trans hmax)]
  have hlensqr : opnd w u rd = asr (sumSquares (opnds w s rs1 vl.count)) (fracBits s.build w) := by
    rw [opnd_of_computesOne (computesOne_lensqr s hw) hu, lenSqr, wrap_wrap,
      wrap_of_nonneg (flooredSquares_nonneg.trans hlo) hmax]
  rw [hdot, hlensqr]
  exact ⟨hlo, hhi⟩

end Sys2Proof.Machine
end

section
/-! PROOFS for 60_exceptions.md. A word is illegal when one of the row's conditions fails, each of which fails for the
causes that R341 lists. What a step does to FAULT and IRQ_EN is read off the cases of a step once; the ways out of the
fault-held state and the changes of irq both follow from it. The domain faults of the scalar commands are those of
checked commands of one component. -/

namespace Sys2Proof

/-! ## The causes of an illegal word -/

theorem broadcastAdmitted_eq_false {r : Row} {f : Fields} :
    broadcastAdmitted r f = false ↔ f.s = 1 ∧ (r.bcast = false ∨ f.vl = 0) := by
  rcases BitVec.eq_zero_or_eq_one f.s with hs | hs
  · simp [broadcastAdmitted, hs]
  · cases hb : r.bcast <;> simp [broadcastAdmitted, hs, hb]

theorem unusedZero_eq_false {r : Row} {f : Fields} :
    unusedZero r f = false ↔
      (r.d = .unused ∧ f.rd ≠ 0) ∨ (r.a = .unused ∧ f.rs1 ≠ 0) ∨ (r.b = .unused ∧ f.rs2 ≠ 0) ∨
        (r.c = .unused ∧ f.rs3 ≠ 0) := by
  simp only [unusedZero, use_beq, bne, Bool.and_eq_false_iff, Bool.or_eq_false_iff, Bool.not_eq_false',
    decide_eq_true_eq, beq_eq_false_iff_ne, or_assoc]

theorem fieldInRange_eq_false {isGroup : Bool} {f : Fields} {r : RegNum} :
    fieldInRange isGroup f r = false ↔ isGroup = true ∧ 31 < r.toNat + f.vl.toNat := by
  rw [fieldInRange, Bool.or_eq_false_iff, Bool.not_eq_false', decide_eq_false_iff_not]
  exact and_congr_right fun _ => by omega

theorem groupsInRange_eq_false {r : Row} {f : Fields} :
    groupsInRange r f = false ↔
      (r.d = .group ∧ 31 < f.rd.toNat + f.vl.toNat) ∨ (r.a = .group ∧ 31 < f.rs1.toNat + f.vl.toNat) ∨
        (r.b = .group ∧ f.s = 0 ∧ 31 < f.rs2.toNat + f.vl.toNat) ∨
        (r.c = .group ∧ f.s = 0 ∧ 31 < f.rs3.toNat + f.vl.toNat) := by
  simp only [groupsInRange, use_beq, Bool.and_eq_false_iff, fieldInRange_eq_false, Bool.and_eq_true,
    decide_eq_true_eq, beq_iff_eq, or_assoc, and_assoc]

theorem indexInRange_eq_false {r : Row} {f : Fields} :
    indexInRange r f = false ↔ r.a = .index ∧ 16 ≤ f.rs1.toNat := by
  simp only [indexInRange, use_beq, bne, Bool.or_eq_false_iff, Bool.not_eq_false', decide_eq_true_eq,
    decide_eq_false_iff_not, not_lt]

/-- A row turns a word away for one of the causes of 60_exceptions.md R341, each the failure of one condition of the
legality test (30_encoding.md R99). -/
theorem rowAdmits_eq_false {r : Row} {f : Fields} :
    rowAdmits r f = false ↔
      f.w ∉ r.fams ∨ f.tier ∉ r.tiers ∨ f.vl ∉ r.vls ∨ (f.s = 1 ∧ (r.bcast = false ∨ f.vl = 0)) ∨
        (r.d = .unused ∧ f.rd ≠ 0) ∨ (r.a = .unused ∧ f.rs1 ≠ 0) ∨ (r.b = .unused ∧ f.rs2 ≠ 0) ∨
        (r.c = .unused ∧ f.rs3 ≠ 0) ∨ (r.d = .group ∧ 31 < f.rd.toNat + f.vl.toNat) ∨
        (r.a = .group ∧ 31 < f.rs1.toNat + f.vl.toNat) ∨
        (r.b = .group ∧ f.s = 0 ∧ 31 < f.rs2.toNat + f.vl.toNat) ∨
        (r.c = .group ∧ f.s = 0 ∧ 31 < f.rs3.toNat + f.vl.toNat) ∨ (r.a = .index ∧ 16 ≤ f.rs1.toNat) := by
  simp only [rowAdmits, Bool.and_eq_false_iff, broadcastAdmitted_eq_false, unusedZero_eq_false, groupsInRange_eq_false,
    indexInRange_eq_false, List.contains_eq_mem, decide_eq_false_iff_not, or_assoc]

end Sys2Proof

namespace Sys2Proof.Machine

/-- The illegal words are those with a listed cause (60_exceptions.md R341). -/
theorem legal_eq_false_iff (c : Word32) : legal c = false ↔ IllegalCause c := by
  cases hrow : rowOf (unpack c).op with
  | none => simp [IllegalCause, hrow, legal_of_no_row hrow]
  | some r => simp only [IllegalCause, hrow, legal_of_row hrow, rowAdmits_eq_false, reduceCtorEq, false_or,
      Option.some.injEq, exists_eq_left']

/-- Settles O7: the conditions of the legality test fail for the listed causes, and a CMD write of a word that they
turn away takes the fault in either build. -/
theorem illegalWordsFault : Obligations.IllegalWordsFault := fun c =>
  ⟨legal_eq_false_iff c, fun hillegal _ _ hnext hheld => step_illegalWord hnext hheld hillegal⟩

/-! ## FAULT, DISCARD and IRQ_EN under the shared operations -/

@[simp] theorem enterFault_faultHeld (s : State) (c : Word32) (k : Cause) (a p : BitVec 2) (v : Int) :
    (s.enterFault c k a p v).faultHeld = true := by simp [State.faultHeld]

@[simp] theorem discardCommand_faultHeld (s : State) : s.discardCommand.faultHeld = s.faultHeld := by
  simp [State.faultHeld]

@[simp] theorem discardCommand_discard (s : State) : s.discardCommand.discard = true := by simp [State.discard]

/-- Discarding a word sets DISCARD and leaves every other bit of STATUS alone (60_exceptions.md R347). -/
theorem discardCommand_status_bit (s : State) {k : Nat} (hk : k ≠ 1) :
    s.discardCommand.status.getLsbD k = s.status.getLsbD k := by
  have htwo : (2 : Word32) = BitVec.twoPow 32 1 := rfl
  rw [discardCommand_status, htwo, BitVec.getLsbD_or, BitVec.getLsbD_twoPow, decide_eq_false hk.symm, Bool.and_false,
    Bool.or_false]

@[simp] theorem clearFault_faultHeld (s : State) : s.clearFault.faultHeld = false := by simp [State.faultHeld]

@[simp] theorem clearFault_discard (s : State) : s.clearFault.discard = false := by simp [State.discard]

/-- IRQ_EN takes bit 0 of the word written (10_state.md R44). -/
theorem irqEn_withCtrl (s : State) (v : Word32) : State.irqEn { s with ctrl := v &&& 1 } = v.getLsbD 0 :=
  and_one_bit v 0

/-- A write to CTRL without SOFT_RST gives IRQ_EN bit 0 of the word, and FAULT_CLR clears FAULT (10_state.md R44;
60_exceptions.md R348). -/
theorem writeCtrl_bits (s : State) {v : Word32} (hrst : v.getLsbD 2 = false) :
    (s.writeCtrl v).irqEn = v.getLsbD 0 ∧ (s.writeCtrl v).faultHeld = (s.faultHeld && !v.getLsbD 1) := by
  rcases writeCtrl_cases s hrst with ⟨hclr, e⟩ | ⟨hclr, e⟩ <;> rw [e, hclr]
  · exact ⟨irqEn_withCtrl s v, by simp⟩
  · exact ⟨irqEn_withCtrl s v, (Bool.and_true _).symm⟩

/-- A write of the window to any offset but that of CTRL changes neither bit (10_state.md R43; 20_memory.md R65). -/
theorem windowWrite_bits (s : State) {off : Nat} (v : Word32) (hoff : off ≠ 0x00C) :
    (windowWrite s off v).irqEn = s.irqEn ∧ (windowWrite s off v).faultHeld = s.faultHeld := by
  rcases windowWrite_cases s off v with ⟨-, e⟩ | ⟨hctrl, -⟩ | ⟨-, -, regs, e⟩
  · rw [e]
    rcases writeStatus_cases s v with ⟨-, e'⟩ | ⟨-, e'⟩ <;> rw [e']
    · exact ⟨rfl, clearDiscard_status_bit s (by decide)⟩
    · exact ⟨rfl, rfl⟩
  · exact absurd hctrl hoff
  · rw [e]
    exact ⟨rfl, rfl⟩

/-- What a step does to FAULT and IRQ_EN, the two bits that irq is made of (60_exceptions.md R349). -/
inductive FaultIrqCase (s t : State) : Prop
  /-- Any event but the three below: neither bit changes. -/
  | kept (hcmd : ∀ c rest, s.pending ≠ .access (.write 0x010 4 c) :: rest)
      (hctrl : ∀ v rest, s.pending ≠ .access (.write 0x00C 4 v) :: rest) (hreset : ¬ ResetNext s)
      (hheld : t.faultHeld = s.faultHeld) (hirqEn : t.irqEn = s.irqEn)
  /-- A CMD write may set FAULT. -/
  | command (c : Word32) (rest : List HostEvent) (h : s.pending = .access (.write 0x010 4 c) :: rest)
      (hheld : s.faultHeld = true → t.faultHeld = true) (hirqEn : t.irqEn = s.irqEn)
  /-- A CTRL write without SOFT_RST writes IRQ_EN, and may clear FAULT. -/
  | control (v : Word32) (rest : List HostEvent) (h : s.pending = .access (.write 0x00C 4 v) :: rest)
      (hrst : v.getLsbD 2 = false) (hheld : t.faultHeld = (s.faultHeld && !v.getLsbD 1))
      (hirqEn : t.irqEn = v.getLsbD 0)
  /-- A reset leaves irq low. -/
  | reset (h : ResetNext s) (hirq : t.irq = false)

/-- Every step that answers a next state is one of the cases. -/
theorem faultIrq_cases {s t : State} (h : step s = .next t) : FaultIrqCase s t := by
  cases step_cases s t h with
  | ended hp e =>
    subst e
    exact .kept (by simp [hp]) (by simp [hp]) (by simp [ResetNext, hp]) rfl rfl
  | read off rest hp e =>
    subst e
    exact .kept (by simp [hp]) (by simp [hp]) (by simp [resetNext_iff hp]) rfl rfl
  | discarded c rest hp hf e =>
    subst e
    exact .command c rest hp (by simp) rfl
  | illegal c rest d hp hf hd e =>
    subst e
    exact .command c rest hp (by simp) rfl
  | command c rest i hp hf hd e =>
    obtain ⟨hctrl, -⟩ := keepsPort_of_exec e
    exact .command c rest hp (by simp [hf]) (congrArg (BitVec.getLsbD · 0) hctrl)
  | write off v rest hp hcmd e =>
    subst e
    by_cases hoff : off = 0x00C
    · subst hoff
      cases hrst : v.getLsbD 2 with
      | true =>
        have hsoft : windowWrite (s.served rest) 0x00C v = (s.served rest).resetUnit := writeCtrl_softRst _ hrst
        exact .reset ⟨rest, .inr (.inr ⟨v, hrst, hp⟩)⟩ (by rw [hsoft, resetUnit_irq])
      | false =>
        obtain ⟨hirqEn, hheld⟩ := writeCtrl_bits (s.served rest) hrst
        exact .control v rest hp hrst hheld hirqEn
    · obtain ⟨hirqEn, hheld⟩ := windowWrite_bits (s.served rest) v hoff
      exact .kept (by simp [hp, hcmd]) (by simp [hp, hoff]) (by simp [resetNext_iff hp, hoff]) hheld hirqEn
  | reset rest hp e =>
    subst e
    exact .reset ⟨rest, .inl hp⟩ (resetUnit_irq _)
  | resetDuring a rest hp e =>
    subst e
    exact .reset ⟨rest, .inr (.inl ⟨a, hp⟩)⟩ (resetUnit_irq _)

/-! ## The fault-held state -/

/-- Settles O8: the word is discarded without being decoded. -/
theorem faultHeldDiscards : Obligations.FaultHeldDiscards := by
  intro s s' c hnext hheld
  have hsame : s'.status = s.status := by
    obtain ⟨rest, -, rfl⟩ := hnext
    rfl
  have hheld' : s'.faultHeld = true := (congrArg (BitVec.getLsbD · 0) hsame).trans hheld
  refine ⟨s'.discardCommand, ?_, discardCommand_discard s', by rw [discardCommand_faultHeld, hheld'], rfl,
    fun k hk => ?_⟩
  · rw [step_writeCmd hnext, writeCmd, if_pos hheld']
  · rw [discardCommand_status_bit s' (by omega), hsame]

/-- Settles O9: of the events only a CTRL write and a reset can clear FAULT, and the write does so with FAULT_CLR. -/
theorem waysOutOfFaultHeld : Obligations.WaysOutOfFaultHeld := by
  refine ⟨fun s t h hs ht => ?_, fun s s' v hnext hclr hrst => ?_⟩
  · cases faultIrq_cases h with
    | kept _ _ _ hheld => rw [hheld, hs] at ht; cases ht
    | command c rest hp hheld => rw [hheld hs] at ht; cases ht
    | control v rest hp _ hheld =>
      have hclr : v.getLsbD 1 = true := by simpa [hs, ht] using hheld
      exact ⟨rest, .inl ⟨v, .inl hclr, hp⟩⟩
    | reset hreset =>
      obtain ⟨rest, hp | hp | ⟨v, hv, hp⟩⟩ := hreset
      · exact ⟨rest, .inr (.inl hp)⟩
      · exact ⟨rest, .inr (.inr hp)⟩
      · exact ⟨rest, .inl ⟨v, .inr hv, hp⟩⟩
  · have hstep : step s = .next (s'.writeCtrl v) := step_windowWrite hnext (by decide) (by decide) (by decide)
    have hclear : s'.writeCtrl v = State.clearFault { s' with ctrl := v &&& 1 } := by
      rw [State.writeCtrl, hrst, hclr, if_neg Bool.false_ne_true, if_pos rfl]
    rw [hclear] at hstep
    exact ⟨_, hstep, clearFault_faultHeld _, clearFault_discard _, irqEn_withCtrl s' v, rfl⟩

/-! ## The interrupt output -/

/-- irq is high when both of its bits are (60_exceptions.md R349). -/
theorem irq_eq_true_iff {s : State} : s.irq = true ↔ s.faultHeld = true ∧ s.irqEn = true := Bool.and_eq_true_iff

/-- A CTRL write resets exactly with SOFT_RST (10_state.md R44). -/
theorem resetNext_iff_softRst {s : State} {v : Word32} {rest : List HostEvent}
    (h : s.pending = .access (.write 0x00C 4 v) :: rest) : ResetNext s ↔ v.getLsbD 2 = true := by
  simp [resetNext_iff h]

section IrqAfter
variable {s t : State} (h : step s = .next t)
include h

/-- irq is high after fault entry with IRQ_EN set (60_exceptions.md R349). -/
theorem irq_of_fault_entry {c : Word32} {rest : List HostEvent} (hp : s.pending = .access (.write 0x010 4 c) :: rest)
    (hheld : t.faultHeld = true) (hen : s.irqEn = true) : t.irq = true := by
  cases faultIrq_cases h with
  | kept hcmd => exact absurd hp (hcmd c rest)
  | command _ _ _ _ hirqEn => exact irq_eq_true_iff.mpr ⟨hheld, hirqEn.trans hen⟩
  | control _ _ hp' => rw [hp] at hp'; cases hp'
  | reset hreset => simp [resetNext_iff hp] at hreset

/-- irq after a CTRL write without SOFT_RST: FAULT unless FAULT_CLR clears it, and IRQ_EN as written
(60_exceptions.md R349). -/
theorem irq_of_ctrl {v : Word32} {rest : List HostEvent} (hp : s.pending = .access (.write 0x00C 4 v) :: rest)
    (hrst : v.getLsbD 2 = false) : t.irq = (s.faultHeld && !v.getLsbD 1 && v.getLsbD 0) := by
  cases faultIrq_cases h with
  | kept _ hctrl => exact absurd hp (hctrl v rest)
  | command _ _ hp' => rw [hp] at hp'; cases hp'
  | control _ _ hp' _ hheld hirqEn =>
    rw [hp] at hp'
    cases hp'
    rw [State.irq, hheld, hirqEn]
  | reset hreset =>
    rw [resetNext_iff_softRst hp, hrst] at hreset
    cases hreset

theorem irq_of_reset (hreset : ResetNext s) : t.irq = false := by
  cases faultIrq_cases h with
  | kept _ _ hno => exact absurd hreset hno
  | command _ _ hp => simp [resetNext_iff hp] at hreset
  | control _ _ hp hrst =>
    rw [resetNext_iff_softRst hp, hrst] at hreset
    cases hreset
  | reset _ hirq => exact hirq

/-- irq rises only at fault entry and when IRQ_EN is written 1 during a held fault (60_exceptions.md R349). -/
theorem irq_rises (hlow : s.irq = false) (hhigh : t.irq = true) :
    (∃ c rest, s.pending = .access (.write 0x010 4 c) :: rest ∧ s.irqEn = true ∧ s.faultHeld = false ∧
      t.faultHeld = true) ∨
    ∃ v rest, s.pending = .access (.write 0x00C 4 v) :: rest ∧ s.faultHeld = true ∧ v.getLsbD 0 = true ∧
      v.getLsbD 1 = false ∧ v.getLsbD 2 = false := by
  obtain ⟨ht, hen⟩ := irq_eq_true_iff.mp hhigh
  cases faultIrq_cases h with
  | kept _ _ _ hheld hirqEn =>
    rw [State.irq, ← hheld, ht, ← hirqEn, hen] at hlow
    cases hlow
  | command c rest hp _ hirqEn =>
    rw [hirqEn] at hen
    refine .inl ⟨c, rest, hp, hen, ?_, ht⟩
    rwa [State.irq, hen, Bool.and_true] at hlow
  | control v rest hp hrst hheld hirqEn =>
    rw [hheld, Bool.and_eq_true, Bool.not_eq_true'] at ht
    obtain ⟨hs, hclr⟩ := ht
    exact .inr ⟨v, rest, hp, hs, hirqEn.symm.trans hen, hclr, hrst⟩
  | reset _ hirq =>
    rw [hirq] at hhigh
    cases hhigh

/-- irq falls only after FAULT_CLR, after IRQ_EN is written 0 and at a reset (60_exceptions.md R349). -/
theorem irq_falls (hhigh : s.irq = true) (hlow : t.irq = false) :
    (∃ v rest, s.pending = .access (.write 0x00C 4 v) :: rest ∧ (v.getLsbD 1 = true ∨ v.getLsbD 0 = false)) ∨
      ResetNext s := by
  obtain ⟨hs, hen⟩ := irq_eq_true_iff.mp hhigh
  cases faultIrq_cases h with
  | kept _ _ _ hheld hirqEn =>
    rw [State.irq, hheld, hs, hirqEn, hen] at hlow
    cases hlow
  | command _ _ _ hheld hirqEn =>
    rw [State.irq, hheld hs, hirqEn, hen] at hlow
    cases hlow
  | control v rest hp hrst =>
    rw [irq_of_ctrl h hp hrst, hs, Bool.true_and, Bool.and_eq_false_iff, Bool.not_eq_false'] at hlow
    exact .inl ⟨v, rest, hp, hlow⟩
  | reset hreset => exact .inr hreset

end IrqAfter

/-- Settles O20: the level of irq after each event that R349 names, and the only events at which it changes. -/
theorem irqChanges : Obligations.IrqChanges := by
  intro s t h
  refine ⟨rfl, fun c rest hp _ ht hen => irq_of_fault_entry h hp ht hen, fun v rest hp hs hen hclr hrst => ?_,
    fun v rest hp hoff => ?_, irq_of_reset h, irq_rises h, irq_falls h⟩
  · rw [irq_of_ctrl h hp hrst, hs, hen, hclr]
    rfl
  · cases hrst : v.getLsbD 2 with
    | true => exact irq_of_reset h ((resetNext_iff_softRst hp).mpr hrst)
    | false =>
      rw [irq_of_ctrl h hp hrst]
      rcases hoff with hclr | hen
      · rw [hclr, Bool.not_true, Bool.and_false, Bool.false_and]
      · rw [hen, Bool.and_false]

/-! ## A release build -/

/-- Settles O24: of the cases of a legal command the one that faults is of a strict build. -/
theorem releaseNeverFaults : Obligations.ReleaseNeverFaults := by
  intro i s hw hrelease
  obtain ⟨t, ht⟩ := exec_next i s
  refine ⟨t, ht, ?_⟩
  cases exec_cases ht with
  | illegal hw' => rw [hw] at hw'; cases hw'
  | domain _ _ hstrict => rw [hrelease] at hstrict; cases hstrict
  | done v _ hdone =>
    obtain ⟨-, hcount, hcapture, hport⟩ := hdone
    exact ⟨hcount, hcapture, hport⟩

/-! ## Domain faults of the scalar commands -/

/-- A checked command of one component reports component 0 (60_exceptions.md R343). -/
theorem RunsChecked.traps_one {i : Instr} {s : State} {rd : RegNum} {w : Family} {arg : BitVec 2} {out : Nat → Prop}
    [DecidablePred out] {y v : Nat → Int} (h : RunsChecked i s rd w 1 arg out y v) (hw : i.wellFormed = true)
    (hstrict : s.build.strict = true) (hout : out 0) : TrapsDomain i s arg 0 (y 0) :=
  h.traps hw hstrict Nat.one_pos hout nofun

/-- Settles O57: each is a checked command of one component. -/
theorem scalarDomainTraps : Obligations.ScalarDomainTraps := by
  intro t w rd rs1 rs2 s hstrict
  obtain ⟨hsqrt, hrsqrt, hrcp⟩ := wellFormed_rootOf t w rd rs1
  obtain ⟨hlog2, hlog, hpow⟩ := wellFormed_logarithmOf t w rd rs1 rs2
  obtain ⟨hasin, hacos⟩ := wellFormed_arcOf t w rd rs1
  refine ⟨fun hzero => ?_, fun hneg => ⟨?_, ?_⟩, fun hnonpos => ⟨?_, ?_, ?_, ?_⟩, fun hout => ?_, fun hout => ⟨?_, ?_⟩⟩
  · have htraps := (runsChecked_ratio w rd rs1 rs2 s).traps_one rfl hstrict hzero
    rwa [hzero] at htraps
  · exact (runsChecked_sqrtOf t w rd rs1 s).traps_one hsqrt hstrict hneg
  · exact (runsChecked_sqrtPrecise w rd rs1 s).traps_one rfl hstrict hneg
  · exact (runsChecked_rsqrtOf t w rd rs1 s).traps_one hrsqrt hstrict hnonpos
  · exact (runsChecked_log2Of t w rd rs1 s).traps_one hlog2 hstrict hnonpos
  · exact (runsChecked_logOf t w rd rs1 s).traps_one hlog hstrict hnonpos
  · exact (runsChecked_powOf t w rd rs1 rs2 s).traps_one hpow hstrict hnonpos
  · exact (runsChecked_rcpOf t w rd rs1 s).traps_one hrcp hstrict hout
  · exact (runsChecked_asinOf t w rd rs1 s).traps_one hasin hstrict hout
  · exact (runsChecked_acosOf t w rd rs1 s).traps_one hacos hstrict hout

end Sys2Proof.Machine
end
